-- ==== Sys2Proof/Word.lean ====
section
/-! DEFINITION. The words the spec treats as bits: a byte of a frame, a Timebase value, a 16-bit field.
Engineering values are `Int` and levels are `Nat` in the model (the spec computes with them exactly and saturates). -/

namespace Sys2Proof

/-- A byte of a frame: a node address, a sequence of the requester, a code, a payload byte (chapter 11). -/
abbrev Byte := BitVec 8

/-- A 16-bit field of a frame, sent high byte first (chapter 11); the CRC register of R3. -/
abbrev Half := BitVec 16

/-- A value of the 32-bit millisecond Timebase, which wraps from 4294967295 to 0 (00_scope.md, 2.6; R195). -/
abbrev Time := BitVec 32

end Sys2Proof
end

