-- ==== Sys2Proof/Syntax.lean ====
section
/-! DEFINITION. The commands of the part: one constructor for each row of spec/opcode_table.json, in the table's order but for the
last two rows, which the table too lists last. A request row carries no field of its request: the request stands at the head of the
Request Unit's input FIFO, where FRAME_END put it (R9, R146), with its src, its seq and its payload. -/

namespace Sys2Proof

/-- The three kinds of symbol of the line (section 1.2). -/
inductive Symbol where
  | data (b : Byte)
  | delimiter
  | idle
  deriving DecidableEq, Repr

/-- The rows of spec/opcode_table.json. Every operand's range is the range of its type (section 2.3 of the conventions). -/
inductive Instr where
  /-- COLD_RESET (R20), with the seven address straps as RESET_N rises. -/
  | coldReset (straps : BitVec 7)
  /-- TIMEBASE_ADVANCE (R195). -/
  | timebaseAdvance
  /-- FRAME_END (R2). -/
  | frameEnd
  /-- LINK_DOWN_TIMER_EXPIRY (R4). -/
  | linkDownTimerExpiry
  /-- EGRESS_GRANT (R16). -/
  | egressGrant
  /-- EGRESS_DONE (R19). -/
  | egressDone
  /-- STALENESS_EXPIRY (R31) of one point. -/
  | stalenessExpiry (point : Fin 256)
  /-- PERIOD_TIMER_EXPIRY (R71) of one regulator. -/
  | periodTimerExpiry (regulator : Fin 32)
  /-- HOLD_TIMER_EXPIRY (R100). -/
  | holdTimerExpiry
  /-- STALL_WINDOW_EXPIRY (R107) of one regulator's supervisor. -/
  | stallWindowExpiry (regulator : Fin 32)
  /-- ACK_TIMER_EXPIRY (R125) of one channel. -/
  | ackTimerExpiry (channel : Fin 16)
  /-- PROBE_TIMER_EXPIRY (R127) of one channel. -/
  | probeTimerExpiry (channel : Fin 16)
  /-- RESEND_TIMER_EXPIRY (R170). -/
  | resendTimerExpiry
  /-- SWEEP_STEP_EXPIRY (R180). -/
  | sweepStepExpiry
  /-- IDENTIFY (R158). -/
  | identify
  /-- READ_STATUS (R159). -/
  | readStatus
  /-- BIND (R156). -/
  | bind
  /-- UNBIND (R157). -/
  | unbind
  /-- RESTART (R160). -/
  | restart
  /-- CLEAR_ALL (R160). -/
  | clearAll
  /-- SET_CHAIN (R14). -/
  | setChain
  /-- SET_OVERRIDE (R103). -/
  | setOverride
  /-- WRITE_POINT (R34). -/
  | writePoint
  /-- READ_POINT (R39). -/
  | readPoint
  /-- DELETE_POINT (R40). -/
  | deletePoint
  /-- FIND_POINT (R41). -/
  | findPoint
  /-- SET_WATCH (R55). -/
  | setWatch
  /-- CLEAR_WATCH (R56). -/
  | clearWatch
  /-- WRITE_REGULATOR (R84). -/
  | writeRegulator
  /-- WRITE_CURVE (R86). -/
  | writeCurve
  /-- READ_REGULATOR (R87). -/
  | readRegulator
  /-- ENABLE_REGULATOR (R89). -/
  | enableRegulator
  /-- DISABLE_REGULATOR (R90). -/
  | disableRegulator
  /-- TAKE_MANUAL (R136). -/
  | takeManual
  /-- SET_MANUAL_LEVEL (R142). -/
  | setManualLevel
  /-- RELEASE_MANUAL (R144). -/
  | releaseManual
  /-- WRITE_ACTUATOR (R129). -/
  | writeActuator
  /-- READ_ACTUATOR (R131). -/
  | readActuator
  /-- RESET_ACTUATOR (R132). -/
  | resetActuator
  /-- ACK_NOTES (R171). -/
  | ackNotes
  /-- SWEEP (R179). -/
  | sweep
  /-- WRITE_COUNTERS (R189). -/
  | writeCounters
  /-- READ_COUNTERS (R190). -/
  | readCounters
  /-- SYMBOL_RECEIVED (R4) of one symbol on CIN. -/
  | symbolReceived (symbol : Symbol)
  /-- MALFORMED_REQUEST (R150). -/
  | malformedRequest
  deriving DecidableEq, Repr

end Sys2Proof
end

