-- ==== Sys2Proof/WellFormed.lean ====
section
/-! DEFINITION. The operand ranges of a command (section 2.3 of the conventions). The types of the constructors carry them, so an
ill-formed command cannot be written; a number that comes from outside becomes an operand through the checks here, which refuse
what is out of range, and the requests read their index bytes through the same checks. -/

namespace Sys2Proof

/-- A point index is 0 to 255. -/
def pointIndex? (n : Nat) : Option (Fin 256) := if h : n < 256 then some ⟨n, h⟩ else none

/-- A regulator index is 0 to 31; a request with a larger one is refused with RANGE (section 4.6). -/
def regulatorIndex? (n : Nat) : Option (Fin 32) := if h : n < 32 then some ⟨n, h⟩ else none

/-- An actuator channel index is 0 to 15; a request with a larger one is refused with RANGE (section 6.7). -/
def channelIndex? (n : Nat) : Option (Fin 16) := if h : n < 16 then some ⟨n, h⟩ else none

/-- A channel number within a node is 0 to 15. -/
def nodeChannel? (n : Nat) : Option (Fin 16) := channelIndex? n

/-- The seven straps read as a number 0 to 127 (R1). -/
def straps? (n : Nat) : Option (BitVec 7) := if n < 128 then some (BitVec.ofNat 7 n) else none

/-- Every operand of the command stands in its range. -/
def Instr.wellFormed : Instr → Bool
  | .coldReset a => (straps? a.toNat).isSome
  | .stalenessExpiry p => (pointIndex? p.val).isSome
  | .periodTimerExpiry r => (regulatorIndex? r.val).isSome
  | .stallWindowExpiry r => (regulatorIndex? r.val).isSome
  | .ackTimerExpiry c => (channelIndex? c.val).isSome
  | .probeTimerExpiry c => (channelIndex? c.val).isSome
  | .timebaseAdvance | .frameEnd | .linkDownTimerExpiry | .egressGrant | .egressDone | .holdTimerExpiry
  | .resendTimerExpiry | .sweepStepExpiry | .identify | .readStatus | .bind | .unbind | .restart | .clearAll
  | .setChain | .setOverride | .writePoint | .readPoint | .deletePoint | .findPoint | .setWatch | .clearWatch
  | .writeRegulator | .writeCurve | .readRegulator | .enableRegulator | .disableRegulator | .takeManual
  | .setManualLevel | .releaseManual | .writeActuator | .readActuator | .resetActuator | .ackNotes | .sweep
  | .writeCounters | .readCounters | .symbolReceived _ | .malformedRequest => true

end Sys2Proof
end

