-- ==== Sys2Proof/Decode.lean ====
section
/-! DEFINITION. The part has no instruction words: no row of spec/opcode_table.json gives bits (its "fields" are empty and it has no
"fixed"), so no word spells a command. How a received frame spells a request is chapter 11's matter: Machine/Wire.lean,
Machine/Operands.lean and Machine/Chain.lean. -/

namespace Sys2Proof

/-- The command that `nbits` bits `w` spell by the table's bits. No row of the table gives bits. -/
def decodeTableWord (_nbits _w : Nat) : Option Instr := none

end Sys2Proof
end

