-- ==== Sys2Proof/Config.lean ====
section
/-! DEFINITION. The constants the spec fixes, each with its rule, and the one value it leaves open (`unstatedLevel`, with no body). -/

namespace Sys2Proof.Config

/-- R4: the link-down timer expires 20 ms after the last symbol. -/
def linkDownMs : Nat := 20

/-- R2: a 69th data byte ends the frame as over-length, so a frame in reception holds at most 68. -/
def frameMax : Nat := 68

/-- R11: the transit queue holds at most 8 frames. -/
def transitMax : Nat := 8

/-- R9, R146: the input FIFO of the Request Unit holds at most 4 requests. -/
def fifoMax : Nat := 4

/-- R149: the Recent Request List holds at most 4 entries. -/
def recentMax : Nat := 4

/-- R136, R149, R179: at most 3 entries are PENDING. -/
def pendingMax : Nat := 3

/-- R164: the Note Queue holds at most 32 notes. -/
def queueMax : Nat := 32

/-- R164, R167: at most 4 notes are in flight. -/
def windowMax : Nat := 4

/-- R166, R174: the lost count stays at 255. -/
def lostMax : Nat := 255

/-- R170: the resend timer expires 1000 ms after it was last started. -/
def resendMs : Nat := 1000

/-- R126, R128: the probe timer expires 5000 ms after it is started. -/
def probeMs : Nat := 5000

/-- R180: the step timer of a sweep expires 1 ms after it was last started. -/
def sweepStepMs : Nat := 1

/-- R180: a step expiry visits up to 16 indices. -/
def sweepBatch : Nat := 16

/-- R29: a point's count of accepted readings stays at 65535. -/
def countMax : Nat := 65535

/-- R136, R142: a manual level is at most 1000 per mille. -/
def levelMax : Nat := 1000

/-- R158: the vendor code reported by IDENTIFY. -/
def vendorCode : Nat := 90

/-- R158: the part code reported by IDENTIFY. -/
def partCode : Nat := 3216

/-- R158: the silicon revision number of the part the manual describes. -/
def siliconRevision : Nat := 1

/-- R188: the value whose increase to 2147483648 is an overflow of a counter. -/
def overflowAt : BitVec 32 := 2147483647#32

/-- How deep the claims caused by one counter event can nest. R188: a COUNTER note lost from a full queue gives NOTES_EVICTED,
a later claim, which may overflow another counter; a counter overflows again only 2^32 events later, so four counters give at
most four overflows and one last event. -/
def signalDepth : Nat := 5

/-- The straps that `State.reset` samples. The spec fixes no board; its worked examples strap the part to 20 (log entry 1). -/
def resetStraps : BitVec 7 := 20#7

/-- A level in states the spec rules out and so gives no value for: the target of an empty curve (R68, R88 rule it out), the
level of a SET whose in_flight is absent (R113), the value of a STALL note without an acked level (R107). Log entry 12. -/
opaque unstatedLevel : Nat

end Sys2Proof.Config
end

