-- ==== Sys2Proof/Machine/State.lean ====
section
/-! DEFINITION. The state of the part: every piece of state the spec names, as plain data, block by block (section 1.3 of the
introduction); the queue of commands not yet taken; and the state after cold reset. Engineering values are `Int`, levels and
counts `Nat`; Timebase values, sequences, counter values and bytes are bit vectors because the spec wraps or lays them out as bits. -/

namespace Sys2Proof.Machine

/-! ## Frames and requests -/

/-- A frame of the ring: the header fields of section 11.1 and the payload. `len` is the payload's length and the CRC is
computed from the rest (R3), so neither is stored. -/
structure Frame where
  dest : Byte
  src : Byte
  type : Byte
  hops : Byte
  seq : Byte
  payload : List Byte
  deriving DecidableEq, Repr

/-- A reading of a SAMPLE as its three bytes (section 11.4); it stays in its frame unchanged (R62, R192). -/
structure Reading where
  head : Byte
  rawHigh : Byte
  rawLow : Byte
  deriving DecidableEq, Repr

/-- A SAMPLE that the Point Engine has begun and not finished: the frame as it arrived, the readings taken that stay, and those not yet
taken, each in order (R8, R38). -/
structure SampleInWork where
  frame : Frame
  kept : List Reading
  left : List Reading
  deriving DecidableEq, Repr

/-- How a frame ended on CIN (R2). A truncated frame is checked in the step that ends it and never waits. -/
inductive FrameEnding where
  | delimited
  | overLength
  deriving DecidableEq, Repr

/-- A frame that has ended and awaits the ingress check, with the Timebase at its end (R2, R5). -/
structure EndedFrame where
  bytes : List Byte
  ending : FrameEnding
  endedAt : Time
  deriving DecidableEq, Repr

/-- The receiver (R2). `collecting` is absent while data bytes are ignored: before the first delimiter, after an over-length or a
truncated frame. `awaiting` is the at most one frame that awaits the checks. -/
structure Receiver where
  collecting : Option (List Byte)
  awaiting : Option EndedFrame
  deriving DecidableEq, Repr

/-- A request as the CI appends it to the input FIFO: src, seq and payload (R9). -/
structure Request where
  src : Byte
  seq : Byte
  payload : List Byte
  deriving DecidableEq, Repr

/-- The eleven reply statuses (section 11.2). -/
inductive Status where
  | ok | badRequest | range | notFound | duplicateKey | inUse | state | conflict | busy | notManager | cancelled
  deriving DecidableEq, Repr

/-- A reply: the src and seq of the request it answers, the request code, a status and the data (chapter 8). -/
structure Reply where
  src : Byte
  seq : Byte
  code : Byte
  status : Status
  data : List Byte
  deriving DecidableEq, Repr

/-- What names an entry of the Recent Request List: the pair (src, seq), distinct in the list (R149). -/
structure EntryRef where
  src : Byte
  seq : Byte
  deriving DecidableEq, Repr

/-- The status of an entry: PENDING, or DONE with the whole reply as it was formed (section 8.3). -/
inductive EntryStatus where
  | pending
  | done (reply : Reply)
  deriving DecidableEq, Repr

/-- An entry of the Recent Request List (section 8.3). -/
structure Entry where
  ref : EntryRef
  status : EntryStatus
  deriving DecidableEq, Repr

/-! ## Chain Interface (chapter 1) -/

/-- The link state (section 1.3). -/
inductive LinkState where
  | down | up
  deriving DecidableEq, Repr

/-- The two classes of candidate at the egress arbiter (section 1.8). -/
inductive EgressClass where
  | transit | originated
  deriving DecidableEq, Repr

/-- Who receives the egress-done of the frame in transmission (section 1.8). -/
inductive Producer where
  | transit
  | reply
  | channel (index : Fin 16)
  | note
  deriving DecidableEq, Repr

/-- The port of the arbiter: FREE, or BUSY with the granted producer and the bytes on the wire (R13, R16, R19). -/
inductive Port where
  | free
  | busy (producer : Producer) (bytes : List Byte)
  deriving DecidableEq, Repr

/-- The state of the Chain Interface (chapter 1, R20), with the SAMPLE it has handed to the Point Engine while that is at work on it
(R8, R38). -/
structure ChainInterface where
  straps : BitVec 7
  link : LinkState
  downStart : Option Time
  linkTimer : Option Time
  rx : Receiver
  sample : Option SampleInWork
  transit : List Frame
  hopBudget : Byte
  port : Port
  lastClass : Option EgressClass
  roundRobin : Fin 16
  deriving DecidableEq, Repr

/-! ## Point Table (chapters 2 and 3) -/

/-- The kind of a point (section 2.1). -/
inductive PointKind where
  | temperature | speed | current | generic
  deriving DecidableEq, Repr

/-- The forward policy of a point (section 2.1). -/
inductive ForwardPolicy where
  | pass | suppress | onChange
  deriving DecidableEq, Repr

/-- The band of a point (section 2.1). -/
inductive Band where
  | unknown | normal | warnHigh | critHigh | warnLow | critLow | stale
  deriving DecidableEq, Repr

/-- The direction of a watch (section 3.4). -/
inductive WatchDirection where
  | above | below
  deriving DecidableEq, Repr

/-- The key of a point: node 1 to 126 and channel 0 to 15 (section 2.1). -/
structure Key where
  node : Byte
  channel : Fin 16
  deriving DecidableEq, Repr

/-- The band thresholds of a point, each absent or a value (R44). -/
structure Thresholds where
  lowCrit : Option Int
  lowWarn : Option Int
  highWarn : Option Int
  highCrit : Option Int
  deriving DecidableEq, Repr

/-- The configuration fields of a point record (section 2.1). -/
structure PointConfig where
  key : Key
  kind : PointKind
  gain : Int
  offset : Int
  shift : Fin 8
  thresholds : Thresholds
  hyst : Nat
  maxAge : Option Nat
  escalate : Bool
  bandNotes : Bool
  forward : ForwardPolicy
  deadband : Nat
  refresh : Nat
  deriving DecidableEq, Repr

/-- The runtime fields of a point record (section 2.1). -/
structure PointRuntime where
  band : Band
  filtered : Option Int
  lastRaw : Option Int
  lastConverted : Option Int
  min : Option Int
  max : Option Int
  count : Nat
  lastSeen : Option Time
  lastForwarded : Option Int
  sinceForward : Nat
  deriving DecidableEq, Repr

/-- The watch sub-record of a point (section 3.4). -/
structure Watch where
  threshold : Int
  direction : WatchDirection
  note : Bool
  valid : Bool
  tripped : Bool
  deriving DecidableEq, Repr

/-- An occupied point record; the table holds `none` for an unoccupied one (section 2.1). -/
structure Point where
  config : PointConfig
  runtime : PointRuntime
  staleTimer : Option Time
  watch : Option Watch
  deriving DecidableEq, Repr

/-! ## Regulators (chapters 4 and 7) -/

/-- How fresh input values are reduced to one (section 4.1). -/
inductive Combine where
  | max | mean
  deriving DecidableEq, Repr

/-- The state of a regulator (section 4.1). -/
inductive RegulatorState where
  | disabled | auto | failsafe | override | handover | manual
  deriving DecidableEq, Repr

/-- A breakpoint of a curve: an input value and an output level (section 4.1). -/
structure Breakpoint where
  input : Int
  level : Nat
  deriving DecidableEq, Repr

/-- The configuration of a regulator but for its curve (section 4.1): what WRITE_REGULATOR carries. -/
structure RegulatorConfig where
  inputs : List (Fin 256)
  combine : Combine
  offAllowed : Bool
  offHyst : Nat
  ceiling : Nat
  failsafe : Nat
  slew : Nat
  period : Nat
  actuator : Fin 16
  feedback : Option (Fin 256)
  stallFloor : Int
  stallWindow : Nat
  participate : Bool
  deriving DecidableEq, Repr

/-- A regulator record: configuration, curve and runtime (section 4.1, section 7.1). -/
structure Regulator where
  config : RegulatorConfig
  curve : List Breakpoint
  state : RegulatorState
  output : Option Nat
  offLatched : Bool
  manualLevel : Option Nat
  handover : Option EntryRef
  periodTimer : Option Time
  deriving DecidableEq, Repr

/-! ## Override Monitor (chapter 5) -/

/-- The override phase (section 5.2). -/
inductive Phase where
  | clear | active | holding
  deriving DecidableEq, Repr

/-- The shelf-wide state of the Override Monitor (section 5.1). The critical set is held as the ascending list of its members. -/
structure OverrideMonitor where
  critical : List (Fin 256)
  phase : Phase
  holdTimer : Option Time
  holdTime : Nat
  startTime : Option Time
  deriving DecidableEq, Repr

/-- The stall supervisor of one regulator (section 5.3). -/
structure Supervisor where
  stalled : Bool
  window : Option Time
  deriving DecidableEq, Repr

/-! ## Actuator Exchange (chapter 6) -/

/-- The exchange state of a channel (section 6.1). -/
inductive ChannelState where
  | idle | sending | awaitAck | fault
  deriving DecidableEq, Repr

/-- The configuration of a channel (section 6.1). A node of 0 means unbound. -/
structure ChannelConfig where
  node : Byte
  nodeChannel : Fin 16
  ackTimeout : Nat
  retryLimit : Nat
  deriving DecidableEq, Repr

/-- A channel record (section 6.1). `justOpened` is the model's own mark: a desired-level write taken at the Timebase as it stands opened
the exchange (R139, log entry 24). -/
structure Channel where
  config : ChannelConfig
  state : ChannelState
  seq : Byte
  inFlight : Option Nat
  transmitting : Bool
  desired : Option Nat
  acked : Option Nat
  retries : Nat
  probing : Bool
  ackTimer : Option Time
  probeTimer : Option Time
  justOpened : Bool
  deriving DecidableEq, Repr

/-! ## Request Unit (chapter 8) -/

/-- The groups of fields of a READ_STATUS reply, each named by the block it is read from (R159). -/
inductive StatusGroup where
  | overrideMonitor | sweepUnit | requestUnit | chainInterface | trafficCounters | noteUnit
  deriving DecidableEq, Repr

/-- R159: what READ_STATUS reads from the Override Monitor; `members` are the first eight of the critical set. -/
structure OverrideStatus where
  phase : Phase
  holdTime : Nat
  count : Nat
  members : List (Fin 256)
  deriving DecidableEq, Repr

/-- R159: what READ_STATUS reads from the Sweep Unit of a sweep in progress. -/
structure SweepStatus where
  first : Nat
  last : Nat
  next : Nat
  deriving DecidableEq, Repr

/-- R159: what READ_STATUS reads from the Request Unit. -/
structure RequestStatus where
  manager : Option Byte
  pending : Nat
  waiting : Nat
  deriving DecidableEq, Repr

/-- R159: what READ_STATUS reads from the Chain Interface. -/
structure ChainStatus where
  link : LinkState
  hopBudget : Byte
  deriving DecidableEq, Repr

/-- R159: what READ_STATUS reads from the Note Unit. -/
structure NoteStatus where
  depth : Nat
  inFlight : Nat
  alert : Bool
  deriving DecidableEq, Repr

/-- R159: how far a READ_STATUS has come: the Timebase value at which it was taken, and each group as it was read from its block, absent until
it is read. The Sweep Unit's group is itself absent while no sweep is in progress. -/
structure StatusRead where
  taken : Time
  override : Option OverrideStatus
  sweep : Option (Option SweepStatus)
  requests : Option RequestStatus
  chain : Option ChainStatus
  frozen : Option Bool
  notes : Option NoteStatus
  deriving DecidableEq, Repr

/-- The request in execution (R146): a READ_STATUS with groups still to be read (R159). Every other request is executed within its
command. -/
structure Execution where
  request : Request
  read : StatusRead
  deriving DecidableEq, Repr

/-- The state of the Request Unit (chapter 8). -/
structure RequestUnit where
  fifo : List Request
  slot : Option Reply
  ready : List Reply
  recent : List Entry
  execution : Option Execution
  manager : Option Byte
  deriving DecidableEq, Repr

/-! ## Note Unit (chapter 9) -/

/-- The thirteen note kinds (section 9.1). -/
inductive NoteKind where
  | band | stale | watch | overrideOn | overrideOff | stall | stallCleared | regState | actFault | actRecovered
  | counter | link | restarted
  deriving DecidableEq, Repr

/-- The severities of a note, ascending (conventions, 2.4). -/
inductive Severity where
  | info | warn | crit
  deriving DecidableEq, Repr

/-- A note but for its sequence and lost count, which it takes at its first send (section 9.1). -/
structure Note where
  kind : NoteKind
  subject : Option Nat
  value : Int
  severity : Severity
  timestamp : Time
  deriving DecidableEq, Repr

/-- A note in flight: the note with the sequence and the lost count taken at its first send (R168). -/
structure SentNote where
  note : Note
  sequence : Half
  lost : Nat
  deriving DecidableEq, Repr

/-- The alert record (R175): each set is held as the ascending list of its members. -/
structure AlertRecord where
  override : Bool
  faulted : List (Fin 16)
  stalled : List (Fin 32)
  deriving DecidableEq, Repr

/-- The Note Unit. The Note Queue is `inFlight` followed by `unsent`: the notes in flight stand at its head (R164). `due` names the
notes of the due set by their sequences, in the order in which they are to be resent (R170). -/
structure NoteUnit where
  inFlight : List SentNote
  unsent : List Note
  nextSequence : Half
  lost : Nat
  resendTimer : Option Time
  due : List Half
  alert : AlertRecord
  deriving DecidableEq, Repr

/-! ## Sweep Unit and Traffic Counters (chapter 10) -/

/-- The descriptor of the sweep in progress (section 10.1); `State.sweep` is `none` while no sweep is in progress. -/
structure Sweep where
  first : Nat
  last : Nat
  stats : Bool
  rebase : Bool
  next : Nat
  visited : Nat
  entry : EntryRef
  stepTimer : Option Time
  deriving DecidableEq, Repr

/-- The fifteen event classes (section 10.2). -/
inductive EventClass where
  | framesIn | crcError | framesForwarded | transitDrop | hopExpired | readingsMatched | readingsUnmatched
  | readingsSuppressed | setsSent | setRetry | acksLate | notesSent | notesEvicted | reqDropped | reqRefused
  deriving DecidableEq, Repr

/-- One traffic counter; a selector of `none` is OFF (section 10.2). -/
structure Counter where
  selector : Option EventClass
  noteOnOverflow : Bool
  freezeOnOverflow : Bool
  value : BitVec 32
  deriving DecidableEq, Repr

/-- The Traffic Counters (section 10.2). -/
structure TrafficCounters where
  counter : Vector Counter 4
  frozen : Bool
  deriving DecidableEq, Repr

/-! ## The part -/

/-- A choice of the sender between two orders in which the spec lets claims be taken (log entry 22): a FRAME_END takes at most so many
readings of a SAMPLE (R38, log entry 23); a TAKE_MANUAL reads its channel before the desired-level write that has just opened the
channel's exchange (R139, log entry 24); a READ_STATUS reads only these of its groups now (R159, log entry 10). -/
inductive Turn where
  | readings (n : Fin 8)
  | readFirst
  | groups (now : List StatusGroup)
  deriving DecidableEq, Repr

/-- The state of the part, block by block, with the Timebase. Two fields are the model's own, the sender's: the queue of commands not yet
taken (log entry 13) and the choices of order that those commands still have to meet (log entry 22). -/
structure State where
  timebase : Time
  ci : ChainInterface
  points : Vector (Option Point) 256
  regs : Vector Regulator 32
  om : OverrideMonitor
  sups : Vector Supervisor 32
  chans : Vector Channel 16
  ru : RequestUnit
  nu : NoteUnit
  sweep : Option Sweep
  counters : TrafficCounters
  pending : List Instr
  turns : List Turn
  deriving DecidableEq, Repr

/-- Why a step could stop with a fault. No rule of the spec stops the part, so there is no reason: no meaning faults. -/
inductive Fault where
  deriving DecidableEq, Repr

/-- Why a step could be refused. -/
inductive Refusal where
  /-- Raised by an arm of `exec` whose command has no meaning yet (no arm does now). Safe: nothing is claimed of it. -/
  | notModelled (mnemonic : String)
  deriving DecidableEq, Repr

/-! ## Values after cold reset -/

/-- R20: the CI after a cold reset that samples `straps` at Timebase 0. -/
def ChainInterface.cold (straps : BitVec 7) : ChainInterface where
  straps := straps
  link := .down
  downStart := none
  linkTimer := some (BitVec.ofNat 32 Config.linkDownMs)
  rx := { collecting := none, awaiting := none }
  sample := none
  transit := []
  hopBudget := 32#8
  port := .free
  lastClass := none
  roundRobin := 15

/-- R91: the default configuration of a regulator. -/
def RegulatorConfig.default : RegulatorConfig where
  inputs := []
  combine := .max
  offAllowed := false
  offHyst := 0
  ceiling := 1000
  failsafe := 1000
  slew := 1000
  period := 10
  actuator := 0
  feedback := none
  stallFloor := 0
  stallWindow := 30
  participate := true

/-- R91: a regulator after cold reset and CLEAR_ALL. -/
def Regulator.default : Regulator where
  config := RegulatorConfig.default
  curve := []
  state := .disabled
  output := none
  offLatched := false
  manualLevel := none
  handover := none
  periodTimer := none

/-- R110, R111: the shelf-wide state after a reset, with the hold time it keeps or takes. -/
def OverrideMonitor.cleared (holdTime : Nat) : OverrideMonitor where
  critical := []
  phase := .clear
  holdTimer := none
  holdTime := holdTime
  startTime := none

/-- R104: the reset state of a supervisor. -/
def Supervisor.reset : Supervisor where
  stalled := false
  window := none

/-- R133: a channel after cold reset and CLEAR_ALL. -/
def Channel.default : Channel where
  config := { node := 0, nodeChannel := 0, ackTimeout := 10, retryLimit := 3 }
  state := .idle
  seq := 0
  inFlight := none
  transmitting := false
  desired := none
  acked := none
  retries := 0
  probing := false
  ackTimer := none
  probeTimer := none
  justOpened := false

/-- R161: the Request Unit after cold reset. -/
def RequestUnit.cold : RequestUnit where
  fifo := []
  slot := none
  ready := []
  recent := []
  execution := none
  manager := none

/-- R177: the alert record clear. -/
def AlertRecord.clear : AlertRecord where
  override := false
  faulted := []
  stalled := []

/-- R177: the Note Unit after cold reset and CLEAR_ALL. -/
def NoteUnit.cleared : NoteUnit where
  inFlight := []
  unsent := []
  nextSequence := 0
  lost := 0
  resendTimer := none
  due := []
  alert := AlertRecord.clear

/-- R191: a counter after cold reset and CLEAR_ALL. -/
def Counter.off : Counter where
  selector := none
  noteOnOverflow := false
  freezeOnOverflow := false
  value := 0

/-- R191: the Traffic Counters after cold reset and CLEAR_ALL. -/
def TrafficCounters.cleared : TrafficCounters where
  counter := Vector.replicate 4 Counter.off
  frozen := false

/-- R20, R42, R91, R110, R133, R161, R177, R186, R191: the part after a cold reset that samples `straps`. -/
def State.cold (straps : BitVec 7) : State where
  timebase := 0
  ci := ChainInterface.cold straps
  points := Vector.replicate 256 none
  regs := Vector.replicate 32 Regulator.default
  om := OverrideMonitor.cleared 10
  sups := Vector.replicate 32 Supervisor.reset
  chans := Vector.replicate 16 Channel.default
  ru := RequestUnit.cold
  nu := NoteUnit.cleared
  sweep := none
  counters := TrafficCounters.cleared
  pending := []
  turns := []

/-- The machine right after reset: a cold reset with the straps of `Config.resetStraps` (log entry 1), no command and no choice waiting. -/
def State.reset : State := State.cold Config.resetStraps

end Sys2Proof.Machine
end

