-- ==== Sys2Proof/Machine/Ops.lean ====
section
/-! DEFINITION. The named operations over the state that every block uses: the records of the tables, timers, sets of indices. -/

namespace Sys2Proof.Machine

/-! ## Records of the tables -/

/-- The point record at an index; `none` when unoccupied. -/
def State.point (s : State) (i : Fin 256) : Option Point := s.points[i]

/-- The regulator record at an index. -/
def State.reg (s : State) (r : Fin 32) : Regulator := s.regs[r]

/-- The stall supervisor of a regulator. -/
def State.sup (s : State) (r : Fin 32) : Supervisor := s.sups[r]

/-- The channel record at an index. -/
def State.chan (s : State) (c : Fin 16) : Channel := s.chans[c]

def State.setPoint (s : State) (i : Fin 256) (p : Option Point) : State := { s with points := s.points.set i p }
def State.setReg (s : State) (r : Fin 32) (g : Regulator) : State := { s with regs := s.regs.set r g }
def State.setSup (s : State) (r : Fin 32) (p : Supervisor) : State := { s with sups := s.sups.set r p }
def State.setChan (s : State) (c : Fin 16) (k : Channel) : State := { s with chans := s.chans.set c k }

def State.withTimebase (s : State) (x : Time) : State := { s with timebase := x }
def State.withCi (s : State) (x : ChainInterface) : State := { s with ci := x }
def State.withPoints (s : State) (x : Vector (Option Point) 256) : State := { s with points := x }
def State.withRegs (s : State) (x : Vector Regulator 32) : State := { s with regs := x }
def State.withOm (s : State) (x : OverrideMonitor) : State := { s with om := x }
def State.withSups (s : State) (x : Vector Supervisor 32) : State := { s with sups := x }
def State.withChans (s : State) (x : Vector Channel 16) : State := { s with chans := x }
def State.withRu (s : State) (x : RequestUnit) : State := { s with ru := x }
def State.withNu (s : State) (x : NoteUnit) : State := { s with nu := x }
def State.withSweep (s : State) (x : Option Sweep) : State := { s with sweep := x }
def State.withCounters (s : State) (x : TrafficCounters) : State := { s with counters := x }
def State.withPending (s : State) (x : List Instr) : State := { s with pending := x }
def State.withTurns (s : State) (x : List Turn) : State := { s with turns := x }

/-! ## Address and mode (R1, R12) -/

/-- R1: the sampled straps as a node address; it is the own address unless the part is TRANSPARENT. -/
def State.ownAddress (s : State) : Byte := s.ci.straps.zeroExtend 8

/-- R1: a sampled value of 0 or 127 puts the part in TRANSPARENT mode. -/
def State.transparent (s : State) : Bool := s.ci.straps == 0#7 || s.ci.straps == 127#7

/-! ## Timers (conventions, 2.5 and 2.6; R195) -/

/-- The expiry time of a timer started at `now` for `ms` milliseconds; it wraps with the Timebase (R195). -/
def expiryAfter (now : Time) (ms : Nat) : Time := now + BitVec.ofNat 32 ms

/-- A timer started in the state as it stands. -/
def State.startTimer (s : State) (ms : Nat) : Option Time := some (expiryAfter s.timebase ms)

/-- The timer runs and its expiry time has come: the Timebase stands at it or has passed it (log entry 3). -/
def timerDue (now : Time) : Option Time → Bool
  | none => false
  | some e => !(now - e).msb

/-- Units of a configured time: a field in × 100 ms or × 10 ms (conventions, 2.1). -/
def hundredMs (n : Nat) : Nat := n * 100
def tenMs (n : Nat) : Nat := n * 10

/-! ## Sets of indices, held as ascending lists without repeats -/

/-- The set with one more member. -/
def insertIndex {n : Nat} (i : Fin n) (l : List (Fin n)) : List (Fin n) :=
  (List.finRange n).filter (fun j => j = i ∨ j ∈ l)

/-- The set with one member fewer. -/
def removeIndex {n : Nat} (i : Fin n) (l : List (Fin n)) : List (Fin n) := l.filter (fun j => j ≠ i)

/-- Do one thing for each regulator, in ascending index order (log entry 6). -/
def forEachRegulator (f : Fin 32 → State → State) (s : State) : State :=
  (List.finRange 32).foldl (fun t r => f r t) s

/-! ## Arithmetic of the conventions (2.1) -/

/-- Saturation to the range of engineering values. -/
def saturateValue (v : Int) : Int := if v < -32768 then -32768 else if v > 32767 then 32767 else v

/-- Integer division truncates toward zero. -/
def truncDiv (a b : Int) : Int := a.tdiv b

/-- A count that stays at its maximum. -/
def saturatingAdd (maximum a b : Nat) : Nat := min maximum (a + b)

end Sys2Proof.Machine
end

