-- ==== Sys2Proof/Machine/Wire.lean ====
section
/-! DEFINITION. The formats of chapter 11: code values, byte order, the CRC of R3, frames and note payloads as bytes. -/

namespace Sys2Proof.Machine

/-! ## Fields of several bytes (chapter 11: high byte first) -/

/-- A 16-bit field, high byte first. -/
def bytes16 (x : Half) : List Byte := [x.extractLsb' 8 8, x.extractLsb' 0 8]

/-- A 32-bit field, high byte first. -/
def bytes32 (x : BitVec 32) : List Byte := [x.extractLsb' 24 8, x.extractLsb' 16 8, x.extractLsb' 8 8, x.extractLsb' 0 8]

/-- A one-byte unsigned field. -/
def byteOf (n : Nat) : Byte := BitVec.ofNat 8 n

/-- A level, count or index of two bytes. -/
def natBytes (n : Nat) : List Byte := bytes16 (BitVec.ofNat 16 n)

/-- A value: a signed two's-complement number of two bytes. -/
def valueBytes (v : Int) : List Byte := bytes16 (BitVec.ofInt 16 v)

/-- A flag byte: 0 clear, 1 set. -/
def flagByte (b : Bool) : Byte := if b then 1 else 0

/-- R194: an absent field is sent with its bytes 0. -/
def optNatBytes (n : Option Nat) : List Byte := natBytes (n.getD 0)
def optValueBytes (v : Option Int) : List Byte := valueBytes (v.getD 0)
def optTimeBytes (t : Option Time) : List Byte := bytes32 (t.getD 0)

/-- A byte of a payload by its offset. Every reader below is used on payloads whose length admits the offset. -/
def byteAt (p : List Byte) (k : Nat) : Byte := p.getD k 0

/-- A 16-bit field by its offset. -/
def halfAt (p : List Byte) (k : Nat) : Half := byteAt p k ++ byteAt p (k + 1)

/-- An unsigned field of one byte, two bytes, and a signed value by its offset. -/
def numAt (p : List Byte) (k : Nat) : Nat := (byteAt p k).toNat
def num16At (p : List Byte) (k : Nat) : Nat := (halfAt p k).toNat
def valueAt (p : List Byte) (k : Nat) : Int := (halfAt p k).toInt

/-- A 32-bit field by its offset. -/
def wordAt (p : List Byte) (k : Nat) : BitVec 32 := halfAt p k ++ halfAt p (k + 2)

/-! ## Code sets (section 11.2) -/

/-- A flag byte other than 0 or 1 is refused (R193). -/
def flag? (b : Byte) : Option Bool := if b = 0 then some false else if b = 1 then some true else none

def PointKind.code : PointKind → Byte
  | .temperature => 0 | .speed => 1 | .current => 2 | .generic => 3

def pointKind? (b : Byte) : Option PointKind :=
  if b = 0 then some .temperature else if b = 1 then some .speed else if b = 2 then some .current
  else if b = 3 then some .generic else none

def ForwardPolicy.code : ForwardPolicy → Byte
  | .pass => 0 | .suppress => 1 | .onChange => 2

def forwardPolicy? (b : Byte) : Option ForwardPolicy :=
  if b = 0 then some .pass else if b = 1 then some .suppress else if b = 2 then some .onChange else none

def Band.code : Band → Nat
  | .unknown => 0 | .normal => 1 | .warnHigh => 2 | .critHigh => 3 | .warnLow => 4 | .critLow => 5 | .stale => 6

def WatchDirection.code : WatchDirection → Byte
  | .above => 0 | .below => 1

def watchDirection? (b : Byte) : Option WatchDirection :=
  if b = 0 then some .above else if b = 1 then some .below else none

def Combine.code : Combine → Byte
  | .max => 0 | .mean => 1

def combine? (b : Byte) : Option Combine :=
  if b = 0 then some .max else if b = 1 then some .mean else none

def RegulatorState.code : RegulatorState → Nat
  | .disabled => 0 | .auto => 1 | .failsafe => 2 | .override => 3 | .handover => 4 | .manual => 5

def ChannelState.code : ChannelState → Byte
  | .idle => 0 | .sending => 1 | .awaitAck => 2 | .fault => 3

def Phase.code : Phase → Byte
  | .clear => 0 | .active => 1 | .holding => 2

def LinkState.code : LinkState → Byte
  | .down => 0 | .up => 1

/-- The fault causes: 1 TIMEOUT, 2 REJECT. -/
def faultTimeout : Nat := 1
def faultReject : Nat := 2

def Severity.code : Severity → Nat
  | .info => 0 | .warn => 1 | .crit => 2

def Status.code : Status → Byte
  | .ok => 0 | .badRequest => 1 | .range => 2 | .notFound => 3 | .duplicateKey => 4 | .inUse => 5 | .state => 6
  | .conflict => 7 | .busy => 8 | .notManager => 9 | .cancelled => 10

/-- The selector codes of the event classes in the order of section 11.2, from code 1; code 0 is OFF. -/
def EventClass.all : List EventClass :=
  [.framesIn, .crcError, .framesForwarded, .transitDrop, .hopExpired, .readingsMatched, .readingsUnmatched,
   .readingsSuppressed, .setsSent, .setRetry, .acksLate, .notesSent, .notesEvicted, .reqDropped, .reqRefused]

def EventClass.code : EventClass → Nat
  | .framesIn => 1 | .crcError => 2 | .framesForwarded => 3 | .transitDrop => 4 | .hopExpired => 5
  | .readingsMatched => 6 | .readingsUnmatched => 7 | .readingsSuppressed => 8 | .setsSent => 9 | .setRetry => 10
  | .acksLate => 11 | .notesSent => 12 | .notesEvicted => 13 | .reqDropped => 14 | .reqRefused => 15

/-- The code of a counter's selector: 0 OFF, or its class's code. -/
def selectorCode : Option EventClass → Nat
  | none => 0
  | some c => c.code

/-- The selector a code names: `none` for an undefined code, `some none` for OFF. -/
def selector? (b : Byte) : Option (Option EventClass) :=
  if b = 0 then some none else (EventClass.all.find? (fun c => c.code = b.toNat)).map some

def NoteKind.code : NoteKind → Byte
  | .band => 1 | .stale => 2 | .watch => 3 | .overrideOn => 4 | .overrideOff => 5 | .stall => 6 | .stallCleared => 7
  | .regState => 8 | .actFault => 9 | .actRecovered => 10 | .counter => 11 | .link => 12 | .restarted => 13

/-! ## Frame types (section 11.1) -/

def typeSample : Byte := 1
def typeSet : Byte := 2
def typeSetAck : Byte := 3
def typeReq : Byte := 4
def typeRsp : Byte := 5
def typeNote : Byte := 6

/-! ## CRC (R3): x^16 + x^12 + x^5 + 1, from all ones, most significant bit first, no reflection, no final inversion -/

/-- One bit of the division. -/
def crcShift (r : Half) : Half := if r.msb then (r <<< 1) ^^^ 0x1021#16 else r <<< 1

/-- One byte, its most significant bit first. -/
def crcByte (r : Half) (b : Byte) : Half :=
  (List.range 8).foldl (fun x _ => crcShift x) (r ^^^ (b.zeroExtend 16 <<< 8))

/-- The CRC of a run of bytes. -/
def crc (bs : List Byte) : Half := bs.foldl crcByte 0xFFFF#16

/-! ## Frames as bytes (section 11.1) -/

/-- The header and the payload of a frame. -/
def Frame.body (f : Frame) : List Byte :=
  [f.dest, f.src, f.type, f.hops, f.seq, byteOf f.payload.length] ++ f.payload

/-- The bytes of a frame with its CRC computed by the method of R3. -/
def Frame.bytes (f : Frame) : List Byte := f.body ++ bytes16 (crc f.body)

/-- R3: the ingress check on the bytes of a frame that ended at a delimiter. -/
def bytesPass (bs : List Byte) : Bool :=
  8 ≤ bs.length && (byteAt bs 5).toNat ≤ 60 && bs.length = 8 + (byteAt bs 5).toNat
    && crc (bs.take (bs.length - 2)) = halfAt bs (bs.length - 2)

/-- R3: an over-length frame fails whatever its bytes. -/
def ingressPasses (f : EndedFrame) : Bool := f.ending = .delimited && bytesPass f.bytes

/-- The frame whose bytes passed the ingress check. -/
def frameOfBytes (bs : List Byte) : Frame where
  dest := byteAt bs 0
  src := byteAt bs 1
  type := byteAt bs 2
  hops := byteAt bs 3
  seq := byteAt bs 4
  payload := (bs.drop 6).take (byteAt bs 5).toNat

/-! ## Readings of a SAMPLE (section 11.4) -/

/-- R192: the channel is bits 3 to 0 of the first byte. -/
def Reading.channel (r : Reading) : Fin 16 := ⟨r.head.toNat % 16, Nat.mod_lt _ (by decide)⟩

/-- R192: bit 4 of the first byte is the quality, 1 FAILED. Bits 7 to 5 are not read. -/
def Reading.failed (r : Reading) : Bool := r.head.getLsbD 4

/-- The raw value, signed. -/
def Reading.raw (r : Reading) : Int := (r.rawHigh ++ r.rawLow).toInt

def Reading.bytes (r : Reading) : List Byte := [r.head, r.rawHigh, r.rawLow]

/-- The readings of a payload in order. -/
def readingsOf : List Byte → List Reading
  | a :: b :: c :: rest => { head := a, rawHigh := b, rawLow := c } :: readingsOf rest
  | _ => []

/-- R192: a SAMPLE is well formed when its len is 3, 6, 9, 12, 15, 18, 21 or 24. -/
def sampleWellFormed (p : List Byte) : Bool := 3 ≤ p.length && p.length ≤ 24 && p.length % 3 = 0

/-! ## Payloads the part originates (R194) -/

/-- R194: a refused reply carries the request code and the status and nothing more; OK and CANCELLED go on with the data. -/
def Reply.payload (r : Reply) : List Byte :=
  [r.code, r.status.code] ++ (if r.status = .ok ∨ r.status = .cancelled then r.data else [])

/-- The payload of a SET: node channel and level (section 11.4). -/
def setPayload (nodeChannel : Fin 16) (level : Nat) : List Byte := byteOf nodeChannel.val :: natBytes level

/-- The 13 bytes of a NOTE payload (section 11.8). -/
def SentNote.payload (n : SentNote) : List Byte :=
  [n.note.kind.code, flagByte n.note.subject.isSome, byteOf (n.note.subject.getD 0)] ++ valueBytes n.note.value
    ++ [byteOf n.note.severity.code] ++ bytes32 n.note.timestamp ++ bytes16 n.sequence ++ [byteOf n.lost]

end Sys2Proof.Machine
end

