-- ==== Sys2Proof/Machine/Traffic.lean ====
section
/-! DEFINITION. Signalling an event to the Traffic Counters (R187, R188) and raising a note (R163 to R166). The two stand together
because each can cause the other: an overflow raises a COUNTER note, and a note lost from a full queue gives NOTES_EVICTED. -/

namespace Sys2Proof.Machine

/-! ## Merging and queueing a note -/

/-- R162: two notes are alike when they have the same kind and the same subject. -/
def Note.alike (a b : Note) : Bool := a.kind = b.kind && a.subject = b.subject

/-- The higher of two severities. -/
def Severity.max (a b : Severity) : Severity := if a.code < b.code then b else a

/-- R165: the earlier note takes the newer value and timestamp and the higher severity. -/
def Note.absorb (earlier newer : Note) : Note :=
  { earlier with value := newer.value, timestamp := newer.timestamp, severity := earlier.severity.max newer.severity }

/-- R165: the note is merged into the unsent notes alike to it (R164: there is at most one). -/
def mergeInto (n : Note) (l : List Note) : List Note := l.map (fun m => if m.alike n then m.absorb n else m)

/-- R166: the oldest unsent note less severe than the new one is removed; `none` when there is none. -/
def evictFor (n : Note) : List Note → Option (List Note)
  | [] => none
  | m :: rest => if m.severity.code < n.severity.code then some rest else (evictFor n rest).map (m :: ·)

/-- The number of notes in the Note Queue, in flight and unsent. -/
def NoteUnit.depth (u : NoteUnit) : Nat := u.inFlight.length + u.unsent.length

/-- R165, R166: settle a raised note, with whether a note was lost. -/
def NoteUnit.settle (n : Note) (u : NoteUnit) : NoteUnit × Bool :=
  if u.unsent.any (fun m => m.alike n) then ({ u with unsent := mergeInto n u.unsent }, false)
  else if u.depth < Config.queueMax then ({ u with unsent := u.unsent ++ [n] }, false)
  else
    match evictFor n u.unsent with
    | some rest => ({ u with unsent := rest ++ [n], lost := saturatingAdd Config.lostMax u.lost 1 }, true)
    | none => ({ u with lost := saturatingAdd Config.lostMax u.lost 1 }, true)

/-! ## Counting an event -/

/-- R187: the counter counts the event when its selector names the class; the value wraps. -/
def Counter.count (c : EventClass) (k : Counter) : Counter :=
  if k.selector = some c then { k with value := k.value + 1#32 } else k

/-- R188: this event takes the counter's value from 2147483647 to 2147483648. -/
def Counter.overflows (c : EventClass) (k : Counter) : Bool := k.selector = some c && k.value = Config.overflowAt

/-- R188: the counters that overflow at this event, ascending; none while the counters are frozen. -/
def TrafficCounters.overflowing (c : EventClass) (t : TrafficCounters) : List (Fin 4) :=
  if t.frozen then [] else (List.finRange 4).filter (fun i => t.counter[i].overflows c)

/-- R187, R188: the counters after one event. -/
def TrafficCounters.count (c : EventClass) (t : TrafficCounters) : TrafficCounters :=
  if t.frozen then t
  else
    { counter := t.counter.map (Counter.count c)
      frozen := (t.overflowing c).any (fun i => t.counter[i].freezeOnOverflow) }

/-- R188: the COUNTER note of a counter that overflowed. -/
def counterNote (c : EventClass) (now : Time) (i : Fin 4) : Note :=
  { kind := .counter, subject := some i.val, value := c.code, severity := .info, timestamp := now }

/-- R188: the notes of the counters that overflowed are raised, ascending; with the number of notes lost. -/
def raiseCounterNotes (c : EventClass) (now : Time) (notes : List (Fin 4)) (u : NoteUnit) : NoteUnit × Nat :=
  notes.foldl (fun a i => let r := a.1.settle (counterNote c now i); (r.1, a.2 + (if r.2 then 1 else 0))) (u, 0)

/-- R187, R188: an event and the later claims it causes, `depth` levels of them (see `Config.signalDepth`). -/
def signalTo : Nat → EventClass → State → State
  | 0, _, s => s
  | depth + 1, c, s =>
    let noting := (s.counters.overflowing c).filter (fun i => s.counters.counter[i].noteOnOverflow)
    let raised := raiseCounterNotes c s.timebase noting s.nu
    Nat.repeat (signalTo depth .notesEvicted) raised.2 ((s.withCounters (s.counters.count c)).withNu raised.1)

/-- R187: one event signalled to the Traffic Counters. -/
def signal (c : EventClass) (s : State) : State := signalTo Config.signalDepth c s

/-- The same event signalled several times. -/
def signalTimes (c : EventClass) (n : Nat) (s : State) : State := Nat.repeat (signal c) n s

/-- R163: a block raises a note, which takes the Timebase as its timestamp. R166: a lost note gives one NOTES_EVICTED. -/
def raise (kind : NoteKind) (subject : Option Nat) (value : Int) (severity : Severity) (s : State) : State :=
  let r := s.nu.settle { kind := kind, subject := subject, value := value, severity := severity, timestamp := s.timebase }
  if r.2 then signal .notesEvicted (s.withNu r.1) else s.withNu r.1

/-! ## The alert record (R175, R176) -/

/-- R98, R175: the Override Monitor tells the Note Unit of a change of phase. -/
def tellOverride (asserted : Bool) (s : State) : State :=
  s.withNu { s.nu with alert := { s.nu.alert with override := asserted } }

/-- R114, R175: a channel tells the Note Unit that it becomes faulted or stops being faulted. -/
def tellFaulted (c : Fin 16) (faulted : Bool) (s : State) : State :=
  s.withNu { s.nu with alert := { s.nu.alert with
    faulted := if faulted then insertIndex c s.nu.alert.faulted else removeIndex c s.nu.alert.faulted } }

/-- R107, R108, R175: the Override Monitor tells the Note Unit that a regulator is STALLED or no longer so. -/
def tellStalled (r : Fin 32) (stalled : Bool) (s : State) : State :=
  s.withNu { s.nu with alert := { s.nu.alert with
    stalled := if stalled then insertIndex r s.nu.alert.stalled else removeIndex r s.nu.alert.stalled } }

end Sys2Proof.Machine
end

