-- ==== Sys2Proof/Machine/Exchange.lean ====
section
/-! DEFINITION. The channel record's own operations (chapter 6): what a channel is, the send check and the desired-level write. -/

namespace Sys2Proof.Machine

/-- R112: a channel is bound while its node is not 0. -/
def Channel.bound (k : Channel) : Bool := k.config.node != 0

/-- R112: a channel is faulted while its state is FAULT or probing is set. -/
def Channel.faulted (k : Channel) : Bool := k.state = .fault || k.probing

/-- R112: the exchange is open while the state is SENDING or AWAIT_ACK. -/
def Channel.exchangeOpen (k : Channel) : Bool := k.state = .sending || k.state = .awaitAck

/-- R118: what the send check asks: bound, desired present, acked absent or different. -/
def Channel.mustSend (k : Channel) : Bool := k.bound && k.desired.isSome && k.acked != k.desired

/-- A new exchange with the next seq, carrying the desired level (R118, R127). -/
def Channel.openExchange (k : Channel) : Channel :=
  { k with seq := k.seq + 1#8, inFlight := k.desired, retries := 0, transmitting := false, state := .sending, justOpened := false }

/-- R118: the send check; it runs in IDLE. -/
def Channel.sendCheck (k : Channel) : Channel :=
  if k.state = .idle && k.mustSend then k.openExchange else k

/-- The mark of an exchange that a desired-level write has opened (log entry 24). -/
def Channel.markOpened (k : Channel) : Channel := if k.state = .sending then { k with justOpened := true } else k

/-- R117: a desired-level write runs the send check in IDLE and only replaces desired in any other state. -/
def Channel.writeDesired (level : Nat) (k : Channel) : Channel :=
  if k.state = .idle then { k with desired := some level }.sendCheck.markOpened else { k with desired := some level }

/-- R139: the exchange was opened by a desired-level write of this moment and its SET is not yet granted, so that a read of the channel
that comes together with the write may be taken before it (log entry 24). -/
def Channel.writtenTogether (k : Channel) : Bool := k.justOpened && k.state = .sending && !k.transmitting

/-- The mark goes as the Timebase advances: later claims do not come together with the write (log entry 24). -/
def Channel.settleMark (k : Channel) : Channel := { k with justOpened := false }

/-- R116, R117: a desired level is written to a channel. -/
def writeDesired (c : Fin 16) (level : Nat) (s : State) : State := s.setChan c ((s.chan c).writeDesired level)

/-- What every end of an exchange does to the channel: in_flight absent, retries 0, not transmitting (R122, R123, R126, R128). -/
def Channel.endExchange (k : Channel) : Channel := { k with inFlight := none, retries := 0, transmitting := false }

/-- R115, R104: an acked level arms a supervisor when it is present and above 0. -/
def arms : Option Nat → Bool
  | none => false
  | some l => 0 < l

end Sys2Proof.Machine
end

