-- ==== Sys2Proof/Machine/Flags.lean ====
section
/-! DEFINITION. The flag and presence bytes of chapter 11 and the state of ALERT_N. -/

namespace Sys2Proof.Machine

/-- A byte from its bits, bit 0 first. -/
def bitsByte (bits : List Bool) : Byte := byteOf (bits.foldr (fun b n => 2 * n + (if b then 1 else 0)) 0)

/-- Threshold presence of a point configuration (section 11.3). -/
def PointConfig.presence (c : PointConfig) : Byte :=
  bitsByte [c.thresholds.lowCrit.isSome, c.thresholds.lowWarn.isSome, c.thresholds.highWarn.isSome,
    c.thresholds.highCrit.isSome, c.maxAge.isSome]

/-- Runtime presence of READ_POINT (section 11.3). -/
def Point.presence (p : Point) : Byte :=
  bitsByte [p.runtime.filtered.isSome, p.runtime.lastRaw.isSome, p.runtime.lastConverted.isSome, p.runtime.min.isSome,
    p.runtime.max.isSome, p.runtime.lastSeen.isSome, p.runtime.lastForwarded.isSome, p.watch.isSome]

/-- Regulator runtime presence (section 11.3). -/
def Regulator.presence (g : Regulator) : Byte :=
  bitsByte [g.output.isSome, g.manualLevel.isSome, g.periodTimer.isSome]

/-- The runtime flags of READ_REGULATOR part 0 (section 11.7). -/
def regulatorFlags (g : Regulator) (p : Supervisor) : Byte :=
  bitsByte [g.offLatched, g.handover.isSome, p.stalled, p.window.isSome]

/-- Channel presence of READ_ACTUATOR (section 11.3). -/
def Channel.presence (k : Channel) (namer : Option (Fin 32)) : Byte :=
  bitsByte [k.inFlight.isSome, k.desired.isSome, k.acked.isSome, k.ackTimer.isSome, k.probeTimer.isSome, namer.isSome]

/-- The channel flags of READ_ACTUATOR (section 11.7). -/
def Channel.flags (k : Channel) : Byte := bitsByte [k.probing, k.transmitting]

/-- The flags byte of a counter entry (section 11.5). -/
def Counter.flags (k : Counter) : Byte := bitsByte [k.noteOnOverflow, k.freezeOnOverflow]

/-- R176: a condition of the alert record holds. -/
def AlertRecord.holds (a : AlertRecord) : Bool := a.override || !a.faulted.isEmpty || !a.stalled.isEmpty

/-- R176: ALERT_N is asserted (pulled low) while a condition holds, and released in TRANSPARENT mode. -/
def State.alertAsserted (s : State) : Bool := !s.transparent && s.nu.alert.holds

/-- The status flags of READ_STATUS (section 11.7). -/
def statusFlags (sweeping bound frozen alert : Bool) : Byte := bitsByte [sweeping, bound, frozen, alert]

end Sys2Proof.Machine
end

