-- ==== Sys2Proof/Machine/Operands.lean ====
section
/-! DEFINITION. The operands of the requests: request codes and admitted lengths (section 11.5), and the configurations and lists that a
request carries, read from its payload with the RANGE checks that need no other state (R34, R84, R86, R129, R179, R189, R193). -/

namespace Sys2Proof.Machine

/-- The requests of section 11.5. -/
inductive RequestCode where
  | identify | readStatus | bind | unbind | restart | clearAll | setChain | setOverride
  | writePoint | readPoint | deletePoint | findPoint | setWatch | clearWatch
  | writeRegulator | writeCurve | readRegulator | enableRegulator | disableRegulator | takeManual | setManualLevel
  | releaseManual | writeActuator | readActuator | resetActuator | ackNotes | sweep | writeCounters | readCounters
  deriving DecidableEq, Repr

/-- The request code byte (section 11.5). -/
def RequestCode.byte : RequestCode → Byte
  | .identify => 1 | .readStatus => 2 | .bind => 3 | .unbind => 4 | .restart => 5 | .clearAll => 6 | .setChain => 7
  | .setOverride => 8 | .writePoint => 16 | .readPoint => 17 | .deletePoint => 18 | .findPoint => 19 | .setWatch => 20
  | .clearWatch => 21 | .writeRegulator => 32 | .writeCurve => 33 | .readRegulator => 34 | .enableRegulator => 35
  | .disableRegulator => 36 | .takeManual => 37 | .setManualLevel => 38 | .releaseManual => 39 | .writeActuator => 48
  | .readActuator => 49 | .resetActuator => 50 | .ackNotes => 64 | .sweep => 65 | .writeCounters => 66 | .readCounters => 67

def RequestCode.all : List RequestCode :=
  [.identify, .readStatus, .bind, .unbind, .restart, .clearAll, .setChain, .setOverride, .writePoint, .readPoint,
   .deletePoint, .findPoint, .setWatch, .clearWatch, .writeRegulator, .writeCurve, .readRegulator, .enableRegulator,
   .disableRegulator, .takeManual, .setManualLevel, .releaseManual, .writeActuator, .readActuator, .resetActuator,
   .ackNotes, .sweep, .writeCounters, .readCounters]

/-- The request a code byte names; `none` for a code outside the table. -/
def requestCode? (b : Byte) : Option RequestCode := RequestCode.all.find? (fun c => c.byte = b)

/-- The payload lengths that section 11.5 admits for a code, counting the code byte. -/
def RequestCode.admits (c : RequestCode) (len : Nat) : Bool :=
  match c with
  | .identify | .readStatus | .bind | .unbind | .restart | .clearAll | .readCounters => len = 1
  | .setChain | .setOverride | .readPoint | .deletePoint | .clearWatch | .enableRegulator | .disableRegulator
  | .releaseManual | .readActuator | .resetActuator => len = 2
  | .findPoint | .readRegulator | .ackNotes => len = 3
  | .takeManual | .setManualLevel => len = 4
  | .setWatch | .writeActuator | .sweep => len = 6
  | .writeCounters => len = 25
  | .writePoint => len = 28
  | .writeRegulator => 19 ≤ len && len ≤ 60
  | .writeCurve => 2 ≤ len && len ≤ 58 && len % 4 = 2

/-- R151: the requests taken from any node while a manager is bound, with BIND and UNBIND, which decide by their own rules. -/
def RequestCode.openToAll : RequestCode → Bool
  | .identify | .readStatus | .readPoint | .findPoint | .readRegulator | .readActuator | .readCounters | .bind | .unbind => true
  | .restart | .clearAll | .setChain | .setOverride | .writePoint | .deletePoint | .setWatch | .clearWatch
  | .writeRegulator | .writeCurve | .enableRegulator | .disableRegulator | .takeManual | .setManualLevel | .releaseManual
  | .writeActuator | .resetActuator | .ackNotes | .sweep | .writeCounters => false

/-- A byte as a point index; one byte always names a record (section 2.7). -/
def pointOf (b : Byte) : Fin 256 := ⟨b.toNat, b.isLt⟩

/-- A field present by a bit of a presence byte; when the bit is clear its bytes are not read (R193). -/
def presentAt {α : Type} (presence : Byte) (bit : Nat) (v : α) : Option α := if presence.getLsbD bit then some v else none

/-- R34: the thresholds that are present are strictly ascending. -/
def Thresholds.ascending (t : Thresholds) : Bool :=
  decide (([t.lowCrit, t.lowWarn, t.highWarn, t.highCrit].filterMap id).Pairwise (· < ·))

/-- R34: the node of a key is 1 to 126. -/
def nodeValid (b : Byte) : Bool := 1 ≤ b.toNat && b.toNat ≤ 126

/-- A configured `max_age`, when present, is 1 to 600 (R34). -/
def maxAgeValid : Option Nat → Bool
  | none => true
  | some n => 1 ≤ n && n ≤ 600

/-- The point configuration that stands at offset 2 of a WRITE_POINT payload, or `none` where stage 1 of R34 or R193 answers RANGE. -/
def pointConfig? (p : List Byte) : Option PointConfig :=
  let presence := byteAt p 10
  let t : Thresholds :=
    { lowCrit := presentAt presence 0 (valueAt p 11), lowWarn := presentAt presence 1 (valueAt p 13)
      highWarn := presentAt presence 2 (valueAt p 15), highCrit := presentAt presence 3 (valueAt p 17) }
  let maxAge := presentAt presence 4 (num16At p 20)
  match nodeChannel? (numAt p 3), pointKind? (byteAt p 4), flag? (byteAt p 22), flag? (byteAt p 23), forwardPolicy? (byteAt p 24) with
  | some channel, some kind, some escalate, some bandNotes, some forward =>
    if h : nodeValid (byteAt p 2) = true ∧ numAt p 9 < 8 ∧ presence.toNat < 32 ∧ maxAgeValid maxAge = true
        ∧ num16At p 25 ≤ 32767 ∧ numAt p 27 ≠ 0 ∧ t.ascending = true then
      some
        { key := { node := byteAt p 2, channel := channel }
          kind := kind
          gain := valueAt p 5
          offset := valueAt p 7
          shift := ⟨numAt p 9, h.2.1⟩
          thresholds := t
          hyst := numAt p 19
          maxAge := maxAge
          escalate := escalate
          bandNotes := bandNotes
          forward := forward
          deadband := num16At p 25
          refresh := numAt p 27 }
    else none
  | _, _, _, _, _ => none

/-- The 26 bytes of a point configuration (section 11.6). -/
def PointConfig.bytes (c : PointConfig) : List Byte :=
  [c.key.node, byteOf c.key.channel.val, c.kind.code] ++ valueBytes c.gain ++ valueBytes c.offset
    ++ [byteOf c.shift.val, c.presence]
    ++ optValueBytes c.thresholds.lowCrit ++ optValueBytes c.thresholds.lowWarn
    ++ optValueBytes c.thresholds.highWarn ++ optValueBytes c.thresholds.highCrit
    ++ [byteOf c.hyst] ++ optNatBytes c.maxAge
    ++ [flagByte c.escalate, flagByte c.bandNotes, c.forward.code] ++ natBytes c.deadband ++ [byteOf c.refresh]

/-- The input list of a WRITE_REGULATOR: the bytes that follow the configuration. -/
def inputsOf (p : List Byte) : List (Fin 256) := (p.drop 19).map pointOf

/-- The regulator configuration and input list of a WRITE_REGULATOR payload, or `none` where a check of stage 1 of R84 or of R193
that needs no point record answers RANGE. -/
def regulatorConfig? (p : List Byte) : Option RegulatorConfig :=
  let inputs := inputsOf p
  match combine? (byteAt p 2), flag? (byteAt p 3), flag? (byteAt p 18), channelIndex? (numAt p 12) with
  | some combine, some offAllowed, some participate, some actuator =>
    if 1 ≤ inputs.length ∧ inputs.length ≤ 6 ∧ inputs.Nodup ∧ 1 ≤ num16At p 5 ∧ num16At p 5 ≤ 1000 ∧ num16At p 7 ≤ num16At p 5
        ∧ 1 ≤ num16At p 9 ∧ num16At p 9 ≤ 1000 ∧ numAt p 11 ≠ 0 ∧ numAt p 13 < 2 ∧ 1 ≤ numAt p 17 ∧ numAt p 17 ≤ 100 then
      some
        { inputs := inputs
          combine := combine
          offAllowed := offAllowed
          offHyst := numAt p 4
          ceiling := num16At p 5
          failsafe := num16At p 7
          slew := num16At p 9
          period := numAt p 11
          actuator := actuator
          feedback := presentAt (byteAt p 13) 0 (pointOf (byteAt p 14))
          stallFloor := valueAt p 15
          stallWindow := numAt p 17
          participate := participate }
    else none
  | _, _, _, _ => none

/-- The 17 bytes of a regulator configuration (section 11.6). -/
def RegulatorConfig.bytes (c : RegulatorConfig) : List Byte :=
  [c.combine.code, flagByte c.offAllowed, byteOf c.offHyst] ++ natBytes c.ceiling ++ natBytes c.failsafe ++ natBytes c.slew
    ++ [byteOf c.period, byteOf c.actuator.val, flagByte c.feedback.isSome, byteOf ((c.feedback.map Fin.val).getD 0)]
    ++ valueBytes c.stallFloor ++ [byteOf c.stallWindow, flagByte c.participate]

/-- The breakpoints of a list of bytes, four bytes each (section 11.5). -/
def breakpointsOf : List Byte → List Breakpoint
  | a :: b :: c :: d :: rest => { input := (a ++ b).toInt, level := (c ++ d).toNat } :: breakpointsOf rest
  | _ => []

def Breakpoint.bytes (b : Breakpoint) : List Byte := valueBytes b.input ++ natBytes b.level

/-- R86: 2 to 8 breakpoints, input values strictly ascending, levels at most 1000. -/
def curveValid (c : List Breakpoint) : Bool :=
  2 ≤ c.length && c.length ≤ 8 && decide (c.Pairwise (fun a b => a.input < b.input)) && c.all (fun b => b.level ≤ 1000)

/-- The channel configuration of a WRITE_ACTUATOR payload, or `none` where stage 1 of R129 answers RANGE. -/
def channelConfig? (p : List Byte) : Option ChannelConfig :=
  match nodeChannel? (numAt p 3) with
  | some nodeChannel =>
    if numAt p 2 ≤ 126 ∧ numAt p 4 ≠ 0 ∧ numAt p 5 ≤ 7 then
      some { node := byteAt p 2, nodeChannel := nodeChannel, ackTimeout := numAt p 4, retryLimit := numAt p 5 }
    else none
  | none => none

/-- One counter entry at an offset, or `none` where its selector or flags byte is not defined (R189, R193). -/
def counterEntry? (p : List Byte) (k : Nat) : Option Counter :=
  match selector? (byteAt p k) with
  | some selector =>
    if numAt p (k + 1) < 4 then
      some
        { selector := selector, noteOnOverflow := (byteAt p (k + 1)).getLsbD 0
          freezeOnOverflow := (byteAt p (k + 1)).getLsbD 1, value := wordAt p (k + 2) }
    else none
  | none => none

/-- The four counter entries of a WRITE_COUNTERS payload. -/
def counterEntries? (p : List Byte) : Option (Vector Counter 4) :=
  match counterEntry? p 1, counterEntry? p 7, counterEntry? p 13, counterEntry? p 19 with
  | some a, some b, some c, some d => some #v[a, b, c, d]
  | _, _, _, _ => none

/-- The six bytes of a counter entry (section 11.5). -/
def Counter.bytes (k : Counter) : List Byte := [byteOf (selectorCode k.selector), k.flags] ++ bytes32 k.value

/-- R147: a src to which a reply can be sent is 1 to 126. -/
def srcUsable (b : Byte) : Bool := nodeValid b

end Sys2Proof.Machine
end

