-- ==== Sys2Proof/Machine/Requests.lean ====
section
/-! DEFINITION. The Request Unit's shared operations (chapter 8): placing and completing replies, the Recent Request List, and taking a
request from the input FIFO with its checks before and its reply after its owner's claim. -/

namespace Sys2Proof.Machine

/-! ## Replies -/

/-- R153: a reply enters the slot when slot and ready list are empty, and otherwise joins the tail of the ready list. -/
def RequestUnit.place (u : RequestUnit) (r : Reply) : RequestUnit :=
  if u.slot.isNone && u.ready.isEmpty then { u with slot := some r } else { u with ready := u.ready ++ [r] }

/-- R153: a reply is formed: it is placed, and a status other than OK gives one REQ_REFUSED event. -/
def formReply (r : Reply) (s : State) : State :=
  let placed := s.withRu (s.ru.place r)
  if r.status = .ok then placed else signal .reqRefused placed

/-! ## The Recent Request List -/

/-- R148: the entry that matches a pair (src, seq). -/
def RequestUnit.find (u : RequestUnit) (ref : EntryRef) : Option Entry := u.recent.find? (fun e => e.ref = ref)

/-- The number of PENDING entries (R149, R152). -/
def RequestUnit.pendingCount (u : RequestUnit) : Nat := u.recent.countP (fun e => e.status = .pending)

/-- The list without its oldest DONE entry. -/
def dropOldestDone : List Entry → List Entry
  | [] => []
  | e :: rest => if e.status = .pending then e :: dropOldestDone rest else rest

/-- R149: room for a new entry: a list of 4 loses its oldest DONE entry. -/
def RequestUnit.makeRoom (u : RequestUnit) : RequestUnit :=
  if u.recent.length < Config.recentMax then u else { u with recent := dropOldestDone u.recent }

/-- R149: the new entry stands at the tail. -/
def RequestUnit.addEntry (u : RequestUnit) (e : Entry) : RequestUnit := { u with recent := u.recent ++ [e] }

/-- R155: the PENDING entry becomes DONE with the reply cached, in its place. -/
def RequestUnit.markDone (u : RequestUnit) (ref : EntryRef) (r : Reply) : RequestUnit :=
  { u with recent := u.recent.map (fun e => if e.ref = ref then { e with status := .done r } else e) }

/-- R155: a deferred completion: the entry becomes DONE and the reply joins the slot or the ready list. -/
def completeEntry (ref : EntryRef) (code : RequestCode) (status : Status) (data : List Byte) (s : State) : State :=
  let r : Reply := { src := ref.src, seq := ref.seq, code := code.byte, status := status, data := data }
  formReply r (s.withRu (s.ru.markDone ref r))

/-! ## Taking a request -/

/-- R152: what an owner returns: a reply's status and data, or that the request is deferred. R159: a READ_STATUS may also have groups
left to read. -/
inductive Verdict where
  | reply (status : Status) (data : List Byte)
  | deferred
  | reading (r : StatusRead)
  deriving DecidableEq, Repr

/-- A refusal carries no data (R194). -/
def refuse (status : Status) : Verdict := .reply status []

/-- The pair by which a request is known. -/
def Request.ref (q : Request) : EntryRef := { src := q.src, seq := q.seq }

/-- The code a reply to the request carries: its code byte as received, or 0 for an empty payload (R194). -/
def Request.codeByte (q : Request) : Byte := byteAt q.payload 0

/-- The code the request names; `none` for an empty payload or an undefined code (R150). -/
def Request.code? (q : Request) : Option RequestCode :=
  match q.payload with
  | [] => none
  | b :: _ => requestCode? b

/-- R150: the payload's length is one that its code admits. -/
def Request.formatOk (q : Request) : Bool :=
  match q.code? with
  | none => false
  | some c => c.admits q.payload.length

/-- R151: the authority check against the binding as it stands. -/
def authorised (manager : Option Byte) (q : Request) : Bool :=
  match manager, q.code? with
  | none, _ => true
  | some m, some c => q.src = m || c.openToAll
  | some m, none => q.src = m

/-- R146: the Request Unit with this request in execution, or with none. -/
def RequestUnit.executing (u : RequestUnit) (x : Option Execution) : RequestUnit := { u with execution := x }

/-- R152, R153: the end of an execution: the entry joins the list as DONE with its reply, or PENDING with none. A READ_STATUS with groups
left to read stays in execution (R159). -/
def finish (q : Request) (v : Verdict) (s : State) : State :=
  match v with
  | .deferred => s.withRu (s.ru.addEntry { ref := q.ref, status := .pending })
  | .reply status data =>
    let r : Reply := { src := q.src, seq := q.seq, code := q.codeByte, status := status, data := data }
    formReply r (s.withRu (s.ru.addEntry { ref := q.ref, status := .done r }))
  | .reading r => s.withRu (s.ru.executing (some { request := q, read := r }))

/-- An owner's claim: what a request does to the part and what is answered. -/
abbrev Owner := Request → State → State × Verdict

/-- R149 to R152: a new request: room for its entry, the format check, the authority check, the owner's claim. -/
def serveNew (owner : Owner) (q : Request) (s : State) : State :=
  let roomy := s.withRu s.ru.makeRoom
  if !q.formatOk then finish q (refuse .badRequest) roomy
  else if !authorised s.ru.manager q then finish q (refuse .notManager) roomy
  else
    let done := owner q roomy
    finish q done.2 done.1

/-- R147, R148: a request taken from the FIFO: discarded for its src, answered from the cache, discarded as PENDING, or new. -/
def serve (owner : Owner) (q : Request) (s : State) : State :=
  if !srcUsable q.src then signal .reqDropped s
  else
    match s.ru.find q.ref with
    | some e =>
      match e.status with
      | .done r => s.withRu (s.ru.place r)
      | .pending => s
    | none => serveNew owner q s

/-- R146: the request at the head of the FIFO is taken when the reply slot and the ready list are empty and no request is in execution; else
nothing is taken (log entry 2). `accepts` says which requests this command takes. -/
def takeRequest (accepts : Request → Bool) (owner : Owner) (s : State) : State :=
  match s.ru.fifo with
  | [] => s
  | q :: rest =>
    if accepts q && s.ru.slot.isNone && s.ru.ready.isEmpty && s.ru.execution.isNone then serve owner q (s.withRu { s.ru with fifo := rest }) else s

/-- The requests whose payload begins with the code of `c`. -/
def hasCode (c : RequestCode) (q : Request) : Bool := q.code? = some c

end Sys2Proof.Machine
end

