-- ==== Sys2Proof/Machine/Control.lean ====
section
/-! DEFINITION. The regulator's shared operations (chapters 4 and 7): what a regulator names, the evaluation R72 to R79, OVERRIDE (R80),
and the completion and cancellation of a handover (R140, R143, R144). -/

namespace Sys2Proof.Machine

/-! ## What a regulator names (R66) -/

/-- R66: a regulator is configured when its input list is non-empty. -/
def Regulator.configured (g : Regulator) : Bool := !g.config.inputs.isEmpty

/-- R66: the feedback point a configured regulator names. -/
def Regulator.feedsBack (g : Regulator) (p : Fin 256) : Bool := g.configured && g.config.feedback = some p

/-- R66: a configured regulator names its inputs and its feedback point. -/
def Regulator.namesPoint (g : Regulator) (p : Fin 256) : Bool := g.config.inputs.contains p || g.feedsBack p

/-- R66: a configured regulator names its actuator channel. -/
def Regulator.namesChannel (g : Regulator) (c : Fin 16) : Bool := g.configured && g.config.actuator = c

/-- The configured regulator that names a channel; by R68 there is at most one. -/
def namerOf (s : State) (c : Fin 16) : Option (Fin 32) := (List.finRange 32).find? (fun r => (s.reg r).namesChannel c)

/-- Some regulator names the point (R34, R40). -/
def pointNamed (s : State) (p : Fin 256) : Bool := (List.finRange 32).any (fun r => (s.reg r).namesPoint p)

/-! ## Evaluation -/

/-- R33: a point is fresh while its band is neither UNKNOWN nor STALE. -/
def Point.fresh (p : Point) : Bool := p.runtime.band != .unknown && p.runtime.band != .stale

/-- R33: what a regulator's read of a point returns: the filtered value of a fresh point. -/
def freshValue : Option Point → Option Int
  | none => none
  | some p => if p.fresh then p.runtime.filtered else none

/-- R72: the values gathered from the input list, in list order. -/
def gather (s : State) (inputs : List (Fin 256)) : List Int := inputs.filterMap (fun p => freshValue (s.point p))

/-- R74: the gathered values reduced to one; the sum is exact and the division truncates toward zero. -/
def combineValues (m : Combine) (vs : List Int) : Int :=
  match m with
  | .max => vs.max?.getD 0
  | .mean => truncDiv vs.sum vs.length

/-- R75: the off latch after the evaluation's test against the first breakpoint's input. -/
def offLatchAfter (g : Regulator) (x : Int) : Bool :=
  if !g.config.offAllowed then false
  else
    match g.curve with
    | [] => g.offLatched
    | b :: _ =>
      if g.offLatched && decide (b.input ≤ x) then false
      else if !g.offLatched && decide (x < b.input - g.config.offHyst) then true
      else g.offLatched

/-- R76: the level on the segment from `a` to `b`, for an input between theirs. -/
def onSegment (a b : Breakpoint) (x : Int) : Nat :=
  ((a.level : Int) + truncDiv ((x - a.input) * ((b.level : Int) - a.level)) (b.input - a.input)).toNat

/-- R76: the curve step. -/
def curveTarget : List Breakpoint → Int → Nat
  | [], _ => Config.unstatedLevel
  | [a], _ => a.level
  | a :: b :: rest, x =>
    if x ≤ a.input then a.level else if x < b.input then onSegment a b x else curveTarget (b :: rest) x

/-- R77: the output after the ceiling on the target, the slew and the final ceiling. -/
def slewOutput (output : Option Nat) (target slew ceiling : Nat) : Nat :=
  let goal := min target ceiling
  match output with
  | none => goal
  | some o => min (if o + slew < goal then o + slew else if goal + slew < o then o - slew else goal) ceiling

/-- R79: a REG_STATE note carries the regulator's index and the new state's code. -/
def raiseRegState (r : Fin 32) (new : RegulatorState) (severity : Severity) (s : State) : State :=
  raise .regState (some r.val) new.code severity s

/-- R73: an evaluation with no fresh input; `notes` is false only at RESTART (R92). -/
def evaluateStale (notes : Bool) (r : Fin 32) (s : State) : State :=
  let g := s.reg r
  let moved := s.setReg r { g with state := .failsafe, output := some g.config.failsafe }
  let noted := if notes && g.state != .failsafe then raiseRegState r .failsafe .warn moved else moved
  writeDesired g.config.actuator g.config.failsafe noted

/-- R74 to R79: an evaluation with fresh values `vs`. -/
def evaluateFresh (notes : Bool) (vs : List Int) (r : Fin 32) (s : State) : State :=
  let g := s.reg r
  let x := combineValues g.config.combine vs
  let latched := offLatchAfter g x
  let target := if latched then 0 else curveTarget g.curve x
  let level := slewOutput g.output target g.config.slew g.config.ceiling
  let moved := s.setReg r { g with state := .auto, output := some level, offLatched := latched }
  let noted := if notes && g.state = .failsafe then raiseRegState r .auto .info moved else moved
  writeDesired g.config.actuator level noted

/-- R72: an evaluation of a regulator. -/
def evaluate (notes : Bool) (r : Fin 32) (s : State) : State :=
  let vs := gather s (s.reg r).config.inputs
  if vs.isEmpty then evaluateStale notes r s else evaluateFresh notes vs r s

/-! ## OVERRIDE -/

/-- R80: the regulator enters OVERRIDE, or re-asserts in it: output and desired level become the ceiling. -/
def assertCeiling (r : Fin 32) (s : State) : State :=
  let g := s.reg r
  writeDesired g.config.actuator g.config.ceiling (s.setReg r { g with state := .override, output := some g.config.ceiling })

/-- R98, R102: the phase as it stands is ACTIVE or HOLDING. -/
def overriding (s : State) : Bool := s.om.phase != .clear

/-- R80: the override entry notice to one regulator. -/
def entryNotice (r : Fin 32) (s : State) : State :=
  let g := s.reg r
  if (g.state = .auto || g.state = .failsafe) && g.config.participate then assertCeiling r s else s

/-- R81: the override clearing notice to one regulator. -/
def clearingNotice (r : Fin 32) (s : State) : State :=
  if (s.reg r).state = .override then evaluate true r s else s

/-- R89, R144: the regulator enters OVERRIDE while the phase is ACTIVE or HOLDING and it participates, else it evaluates. -/
def resumeControl (r : Fin 32) (s : State) : State :=
  if overriding s && (s.reg r).config.participate then assertCeiling r s else evaluate true r s

/-- R70: the period timer is started with the period held now. -/
def startPeriod (r : Fin 32) (s : State) : State :=
  s.setReg r { s.reg r with periodTimer := s.startTimer (hundredMs (s.reg r).config.period) }

/-! ## Handover -/

/-- The data of a TAKE_MANUAL or SET_MANUAL_LEVEL answered OK: index, manual level in force, channel-faulted flag (section 11.7). -/
def manualReply (r : Fin 32) (level : Nat) (faulted : Bool) : List Byte :=
  byteOf r.val :: natBytes level ++ [flagByte faulted]

/-- R137, R142: in MANUAL the regulator's channel takes the manual level as its desired level. -/
def writeManual (r : Fin 32) (s : State) : State :=
  match (s.reg r).manualLevel with
  | none => s
  | some l => writeDesired (s.reg r).config.actuator l s

/-- R140: the channel's report ends a handover, by an entry to FAULT when `faulted`. -/
def completeHandover (r : Fin 32) (faulted : Bool) (s : State) : State :=
  let g := s.reg r
  let written := writeManual r (s.setReg r { g with state := .manual, handover := none })
  match g.handover with
  | none => written
  | some ref => completeEntry ref .takeManual .ok (manualReply r (g.manualLevel.getD 0) faulted) written

/-- R114: a channel tells the Regulator Engine that it has entered IDLE, or FAULT when `faulted`. -/
def reportEntry (c : Fin 16) (faulted : Bool) (s : State) : State :=
  match namerOf s c with
  | none => s
  | some r => if (s.reg r).state = .handover then completeHandover r faulted s else s

/-- R143, R144: in HANDOVER, the pending TAKE_MANUAL is answered CANCELLED with the regulator index. -/
def cancelHandover (r : Fin 32) (s : State) : State :=
  if (s.reg r).state = .handover then
    match (s.reg r).handover with
    | none => s
    | some ref => completeEntry ref .takeManual .cancelled [byteOf r.val] s
  else s

end Sys2Proof.Machine
end

