-- ==== Sys2Proof/Machine/Override.lean ====
section
/-! DEFINITION. The Override Monitor (chapter 5): the critical set and the override phase, the stall supervisors, the expiries of the hold
timer and of the stall windows, and SET_OVERRIDE. -/

namespace Sys2Proof.Machine

/-! ## Phase changes -/

/-- R99: the phase goes from CLEAR to ACTIVE because of point `p`. The set already holds it. -/
def overrideEntry (p : Fin 256) (s : State) : State :=
  let opened := tellOverride true (s.withOm { s.om with phase := .active, startTime := some s.timebase })
  forEachRegulator entryNotice (raise .overrideOn none p.val .crit opened)

/-- R101: the whole seconds of the override, at most 32767. -/
def overrideSeconds (now : Time) (start : Option Time) : Nat := min 32767 ((now - start.getD now).toNat / 1000)

/-- R101: the phase returns to CLEAR. -/
def overrideClearing (s : State) : State :=
  let cleared := tellOverride false (s.withOm { s.om with phase := .clear, holdTimer := none, startTime := none })
  forEachRegulator clearingNotice (raise .overrideOff none (overrideSeconds s.timebase s.om.startTime) .info cleared)

/-- R100: the phase becomes HOLDING and the hold timer is started with the hold time held now. -/
def holdStart (s : State) : State :=
  tellOverride true (s.withOm { s.om with phase := .holding, holdTimer := s.startTimer (s.om.holdTime * 1000) })

/-- R98: the phase becomes ACTIVE again from HOLDING, with no note and no notices. -/
def overrideReentry (s : State) : State :=
  tellOverride true (s.withOm { s.om with phase := .active, holdTimer := none })

/-! ## The critical set -/

/-- R95, R98: a point joins the critical set. -/
def joinCritical (p : Fin 256) (s : State) : State :=
  if p ∈ s.om.critical then s
  else
    let joined := s.withOm { s.om with critical := insertIndex p s.om.critical }
    if s.om.critical.isEmpty then
      match s.om.phase with
      | .clear => overrideEntry p joined
      | .holding | .active => overrideReentry joined
    else joined

/-- R95, R96, R98: a point leaves the critical set; a point that is not a member changes nothing. -/
def leaveCritical (p : Fin 256) (s : State) : State :=
  if p ∈ s.om.critical then
    let left := s.withOm { s.om with critical := removeIndex p s.om.critical }
    if left.om.critical.isEmpty then (if 0 < s.om.holdTime then holdStart left else overrideClearing left) else left
  else s

/-- The bands that make an escalating point critical (R51). -/
def Band.critical (b : Band) : Bool := b = .critHigh || b = .critLow

/-- R95: the Override Monitor acts on a report of a point's new band. -/
def reportBand (p : Fin 256) (new : Band) (s : State) : State :=
  if new.critical then joinCritical p s else leaveCritical p s

/-! ## Stall supervisors -/

/-- R104: a supervisor is active while its regulator is configured, names a feedback point and is not DISABLED. -/
def Regulator.supervised (g : Regulator) : Bool := g.configured && g.config.feedback.isSome && g.state != .disabled

/-- R104: a supervisor is armed while the acked level of its regulator's channel is present and above 0. -/
def armed (s : State) (r : Fin 32) : Bool := arms (s.chan (s.reg r).config.actuator).acked

/-- The feedback point of the regulator stands in STALE. -/
def feedbackStale (s : State) (r : Fin 32) : Bool :=
  match (s.reg r).config.feedback with
  | none => false
  | some p => (s.point p).any (fun q => q.runtime.band = .stale)

/-- R105, R106: the window timer is started if it is stopped and STALLED is clear, with the stall_window held now (R107). -/
def startWindow (r : Fin 32) (s : State) : State :=
  let p := s.sup r
  if !p.stalled && p.window.isNone then
    s.setSup r { p with window := s.startTimer (hundredMs (s.reg r).config.stallWindow) }
  else s

/-- The window timer is stopped. -/
def stopWindow (r : Fin 32) (s : State) : State := s.setSup r { s.sup r with window := none }

/-- R105: arming reads the band of the feedback point and starts the window timer only if it is STALE. -/
def armSupervisor (r : Fin 32) (s : State) : State := if feedbackStale s r then startWindow r s else s

/-- R105, R115: a change of a channel's acked level from `old` reaches the supervisor of the regulator that names the channel. -/
def ackedChanged (c : Fin 16) (old : Option Nat) (s : State) : State :=
  match namerOf s c with
  | none => s
  | some r =>
    if (s.reg r).supervised then
      match arms old, arms (s.chan c).acked with
      | false, true => armSupervisor r s
      | true, false => stopWindow r s
      | false, false | true, true => s
    else s

/-- R108: STALLED is cleared by a feedback reading, with its note. -/
def clearStall (r : Fin 32) (f : Int) (s : State) : State :=
  if (s.sup r).stalled then
    raise .stallCleared (some r.val) f .info (tellStalled r false (s.setSup r { s.sup r with stalled := false }))
  else s

/-- R106: a feedback reading reaches one supervisor. -/
def feedbackReading (p : Fin 256) (f : Int) (r : Fin 32) (s : State) : State :=
  let g := s.reg r
  if g.supervised && g.feedsBack p then
    if g.config.stallFloor ≤ f then clearStall r f (stopWindow r s)
    else if armed s r then startWindow r s
    else s
  else s

/-- R106: a staleness expiry of a feedback point reaches one supervisor. -/
def feedbackWentStale (p : Fin 256) (r : Fin 32) (s : State) : State :=
  let g := s.reg r
  if g.supervised && g.feedsBack p && armed s r then startWindow r s else s

/-- R26, R106: an accepted reading is handed to every supervisor that watches the point. -/
def handFeedback (p : Fin 256) (f : Int) (s : State) : State := forEachRegulator (feedbackReading p f) s

/-- R31, R106: a staleness expiry is handed to every supervisor that watches the point. -/
def handStaleness (p : Fin 256) (s : State) : State := forEachRegulator (feedbackWentStale p) s

/-- R104: a supervisor is put in its reset state, and the Note Unit is told that its regulator is not STALLED; no note. -/
def resetSupervisor (r : Fin 32) (s : State) : State := tellStalled r false (s.setSup r Supervisor.reset)

/-- R105: an enable whose channel already holds an acked level above 0 arms the supervisor at once. -/
def enableSupervisor (r : Fin 32) (s : State) : State :=
  if (s.reg r).supervised && armed s r then armSupervisor r s else s

/-! ## Commands -/

/-- R100: the hold timer expires in HOLDING. -/
def holdExpiry (s : State) : State :=
  if timerDue s.timebase s.om.holdTimer && s.om.phase = .holding then overrideClearing s else s

/-- HOLD_TIMER_EXPIRY (R100, R101). -/
def execHoldTimerExpiry (s : State) : Host.Outcome State Fault Refusal := .next (holdExpiry s)

/-- R107: the window timer of a supervisor expires: STALLED is set and a STALL note is raised. -/
def windowExpiry (r : Fin 32) (s : State) : State :=
  if timerDue s.timebase (s.sup r).window then
    let level := (s.chan (s.reg r).config.actuator).acked.getD Config.unstatedLevel
    raise .stall (some r.val) level .crit (tellStalled r true (s.setSup r { stalled := true, window := none }))
  else s

/-- STALL_WINDOW_EXPIRY (R107). -/
def execStallWindowExpiry (r : Fin 32) (s : State) : Host.Outcome State Fault Refusal := .next (windowExpiry r s)

/-- R103: SET_OVERRIDE takes a hold time of 0 to 60 s. -/
def ownSetOverride : Owner := fun q s =>
  let v := numAt q.payload 1
  if v ≤ 60 then (s.withOm { s.om with holdTime := v }, .reply .ok [byteOf v]) else (s, refuse .range)

/-- SET_OVERRIDE (R103). -/
def execSetOverride (s : State) : Host.Outcome State Fault Refusal :=
  .next (takeRequest (hasCode .setOverride) ownSetOverride s)

end Sys2Proof.Machine
end

