-- ==== Sys2Proof/Machine/Actuators.lean ====
section
/-! DEFINITION. The Actuator Exchange's events and commands (chapter 6): acknowledgements, timers, and the requests on channels. -/

namespace Sys2Proof.Machine

/-! ## Faults (R114, R126) -/

/-- R126: the record as a channel that is not faulted enters FAULT. -/
def Channel.enterFault (k : Channel) (probeTimer : Option Time) : Channel :=
  { k.endExchange with state := .fault, ackTimer := none, probeTimer := probeTimer }

/-- R126: a channel that is not faulted enters FAULT for a cause, tells the Note Unit and reports to the Regulator Engine. -/
def enterFault (c : Fin 16) (cause : Nat) (s : State) : State :=
  let faulted := s.setChan c ((s.chan c).enterFault (s.startTimer Config.probeMs))
  reportEntry c true (tellFaulted c true (raise .actFault (some c.val) cause .crit faulted))

/-- R123, R128: a faulted channel returns to FAULT from an open exchange, with no note, and reports. -/
def returnToFault (c : Fin 16) (s : State) : State :=
  reportEntry c true (s.setChan c ((s.chan c).enterFault (s.startTimer Config.probeMs)))

/-! ## Acknowledgements (R121 to R123) -/

/-- A SET_ACK payload that section 11.4 and R121 admit. `none` is an applied level not read, with status REJECT. -/
structure Acknowledgement where
  nodeChannel : Fin 16
  applied : Option Nat
  deriving DecidableEq, Repr

/-- R121, R192: the acknowledgement a SET_ACK payload carries, if it is one the formats chapter admits. -/
def acknowledgement? (p : List Byte) : Option Acknowledgement :=
  match nodeChannel? (numAt p 0) with
  | none => none
  | some nodeChannel =>
    if p.length ≠ 4 then none
    else if numAt p 1 = 0 then
      (if num16At p 2 ≤ Config.levelMax then some { nodeChannel := nodeChannel, applied := some (num16At p 2) } else none)
    else if numAt p 1 = 1 then some { nodeChannel := nodeChannel, applied := none }
    else none

/-- R121: the bound channel of a node and output; by R113 there is at most one. -/
def channelOf (s : State) (node : Byte) (nodeChannel : Fin 16) : Option (Fin 16) :=
  (List.finRange 16).find? (fun c =>
    (s.chan c).bound && (s.chan c).config.node = node && (s.chan c).config.nodeChannel = nodeChannel)

/-- R121: the acknowledgement matches the channel's exchange. -/
def Channel.matchesAck (k : Channel) (seq : Byte) : Bool := k.state != .idle && k.seq = seq

/-- R122: the record of a channel at an OK acknowledgement, before the send check. -/
def Channel.acknowledge (k : Channel) (applied : Nat) : Channel :=
  { k.endExchange with acked := some applied, ackTimer := none, probeTimer := none, probing := false, state := .idle }

/-- R122: the send check runs but for an applied level that differs from the in_flight level the exchange carried. A channel in
FAULT holds no in_flight level, so there the check runs (section 12.3, log entry 8). -/
def Channel.checksAfter (k : Channel) (applied : Nat) : Bool :=
  match k.inFlight with
  | none => true
  | some l => l = applied

/-- R122: an OK acknowledgement. -/
def ackOk (c : Fin 16) (applied : Nat) (s : State) : State :=
  let k := s.chan c
  let idle := ackedChanged c k.acked (s.setChan c (k.acknowledge applied))
  let recovered :=
    if k.faulted then tellFaulted c false (raise .actRecovered (some c.val) applied .info idle) else idle
  let checked := if k.checksAfter applied then recovered.setChan c (recovered.chan c).sendCheck else recovered
  reportEntry c false checked

/-- R123: a REJECT. -/
def ackReject (c : Fin 16) (s : State) : State :=
  let k := s.chan c
  if !k.faulted then enterFault c faultReject s
  else if k.state = .fault then s.setChan c (k.enterFault (s.startTimer Config.probeMs))
  else returnToFault c s

/-- R121: a SET_ACK addressed to the part, with its src and seq. -/
def takeAck (src seq : Byte) (payload : List Byte) (s : State) : State :=
  match acknowledgement? payload with
  | none => signal .acksLate s
  | some a =>
    match channelOf s src a.nodeChannel with
    | none => signal .acksLate s
    | some c =>
      if (s.chan c).matchesAck seq then
        match a.applied with
        | some applied => ackOk c applied s
        | none => ackReject c s
      else signal .acksLate s

/-! ## Egress-done and timers (R120, R125, R127, R128) -/

/-- R120: the egress-done of a channel's SET. -/
def setDone (c : Fin 16) (s : State) : State :=
  let counted := signal .setsSent s
  let k := counted.chan c
  if k.state = .sending && k.transmitting then
    counted.setChan c
      { k with transmitting := false, state := .awaitAck, ackTimer := counted.startTimer (tenMs k.config.ackTimeout) }
  else counted

/-- R125: a SET is to be sent again with the same seq and level. -/
def Channel.retry (k : Channel) : Channel :=
  { k with retries := k.retries + 1, state := .sending, transmitting := false, ackTimer := none }

/-- R125: the ack timer of a channel expires. -/
def ackExpiry (c : Fin 16) (s : State) : State :=
  let k := s.chan c
  if timerDue s.timebase k.ackTimer && k.state = .awaitAck then
    if k.probing then returnToFault c s
    else if k.retries < k.config.retryLimit then signal .setRetry (s.setChan c k.retry)
    else enterFault c faultTimeout s
  else s

/-- ACK_TIMER_EXPIRY (R125, R126, R128). -/
def execAckTimerExpiry (c : Fin 16) (s : State) : Host.Outcome State Fault Refusal := .next (ackExpiry c s)

/-- R127: the probe timer of a channel in FAULT expires and the channel probes. -/
def probeExpiry (c : Fin 16) (s : State) : State :=
  let k := s.chan c
  if timerDue s.timebase k.probeTimer && k.state = .fault then
    s.setChan c { k.openExchange with probing := true, probeTimer := none }
  else s

/-- PROBE_TIMER_EXPIRY (R127). -/
def execProbeTimerExpiry (c : Fin 16) (s : State) : Host.Outcome State Fault Refusal := .next (probeExpiry c s)

/-! ## Channel requests (R129 to R132) -/

/-- R129: a regulator not in DISABLED names the channel. -/
def channelEngaged (s : State) (c : Fin 16) : Bool :=
  (List.finRange 32).any (fun r => (s.reg r).state != .disabled && (s.reg r).namesChannel c)

/-- R129: another channel is bound to the same node and output. -/
def bindingTaken (s : State) (c : Fin 16) (n : ChannelConfig) : Bool :=
  (List.finRange 16).any (fun d => d ≠ c && (s.chan d).config.node = n.node && (s.chan d).config.nodeChannel = n.nodeChannel)

/-- R130, last sentence: an unbound channel is left unbound. -/
def Channel.staysUnbound (k : Channel) (n : ChannelConfig) : Bool := k.config.node = 0 && n.node = 0

/-- R130: node or output changes. -/
def Channel.rebinds (k : Channel) (n : ChannelConfig) : Bool :=
  !(k.config.node = n.node && k.config.nodeChannel = n.nodeChannel)

/-- R130: the record of a channel left unbound: only ack_timeout and retry_limit change. -/
def Channel.retimed (k : Channel) (n : ChannelConfig) : Channel :=
  { k with config := { k.config with ackTimeout := n.ackTimeout, retryLimit := n.retryLimit } }

/-- R130: the record of a channel after a rebinding. -/
def Channel.rebound (k : Channel) (n : ChannelConfig) : Channel :=
  { k with config := n, desired := none, acked := none, retries := 0, probeTimer := none, probing := false, state := .idle }

/-- What a channel that returns to IDLE other than by an acknowledgement tells: the change of acked to the Override Monitor, the end
of a fault to the Note Unit, and, after its send check, its entry to IDLE to the Regulator Engine (R114, R115, R130, R132). -/
def settleIdleChannel (c : Fin 16) (before after : Channel) (s : State) : State :=
  let told := ackedChanged c before.acked (s.setChan c after)
  let cleared := if before.faulted then tellFaulted c false told else told
  let checked := cleared.setChan c (cleared.chan c).sendCheck
  if before.state != .idle then reportEntry c false checked else checked

/-- R130: a WRITE_ACTUATOR that passed its checks. -/
def carryOutBinding (c : Fin 16) (n : ChannelConfig) (s : State) : State :=
  let k := s.chan c
  if k.staysUnbound n then s.setChan c (k.retimed n)
  else if k.rebinds n then settleIdleChannel c k (k.rebound n) s else s.setChan c { k with config := n }

/-- R129, R130: WRITE_ACTUATOR. -/
def ownWriteActuator : Owner := fun q s =>
  match channelIndex? (numAt q.payload 1), channelConfig? q.payload with
  | some c, some n =>
    if channelEngaged s c || (s.chan c).exchangeOpen then (s, refuse .state)
    else if n.node != 0 && bindingTaken s c n then (s, refuse .duplicateKey)
    else (carryOutBinding c n s, .reply .ok [byteOf c.val])
  | _, _ => (s, refuse .range)

/-- R131 and section 11.7: the data of a READ_ACTUATOR reply. -/
def readActuatorData (c : Fin 16) (s : State) : List Byte :=
  let k := s.chan c
  let namer := namerOf s c
  [byteOf c.val, k.config.node, byteOf k.config.nodeChannel.val, byteOf k.config.ackTimeout, byteOf k.config.retryLimit,
    k.state.code, k.seq, k.presence namer, k.flags]
    ++ optNatBytes k.inFlight ++ optNatBytes k.desired ++ optNatBytes k.acked ++ [byteOf k.retries]
    ++ optTimeBytes k.ackTimer ++ optTimeBytes k.probeTimer ++ [byteOf ((namer.map Fin.val).getD 0)] ++ bytes32 s.timebase

/-- R131: READ_ACTUATOR. -/
def ownReadActuator : Owner := fun q s =>
  match channelIndex? (numAt q.payload 1) with
  | none => (s, refuse .range)
  | some c => (s, .reply .ok (readActuatorData c s))

/-- R132: the record of a channel after RESET_ACTUATOR, before its send check. -/
def Channel.abandon (k : Channel) : Channel :=
  { k.endExchange with acked := none, probing := false, ackTimer := none, probeTimer := none, state := .idle }

/-- R132: RESET_ACTUATOR. -/
def ownResetActuator : Owner := fun q s =>
  match channelIndex? (numAt q.payload 1) with
  | none => (s, refuse .range)
  | some c => (settleIdleChannel c (s.chan c) (s.chan c).abandon s, .reply .ok [byteOf c.val])

/-- WRITE_ACTUATOR (R129, R130). -/
def execWriteActuator (s : State) : Host.Outcome State Fault Refusal :=
  .next (takeRequest (hasCode .writeActuator) ownWriteActuator s)

/-- READ_ACTUATOR (R131). -/
def execReadActuator (s : State) : Host.Outcome State Fault Refusal := .next (takeRequest (hasCode .readActuator) ownReadActuator s)

/-- RESET_ACTUATOR (R132). -/
def execResetActuator (s : State) : Host.Outcome State Fault Refusal :=
  .next (takeRequest (hasCode .resetActuator) ownResetActuator s)

end Sys2Proof.Machine
end

