-- ==== Sys2Proof/Machine/Notes.lean ====
section
/-! DEFINITION. The Note Unit's delivery (chapter 9): the offer, the first send and the resend, the resend timer, ACK_NOTES, and what a bind
and an unbind do to it. -/

namespace Sys2Proof.Machine

/-! ## The offer (R167) -/

/-- A note offered to the arbiter: a due note to be resent, or an unsent note for its first send. -/
inductive Offer where
  | resend (n : SentNote)
  | first (n : Note)
  deriving DecidableEq, Repr

/-- R167: the oldest unsent note while fewer than 4 notes are in flight. -/
def NoteUnit.firstOffer (u : NoteUnit) : Option Offer :=
  if u.inFlight.length < Config.windowMax then u.unsent.head?.map Offer.first else none

/-- R167: the note offered while a manager is bound: the first of the due set, else the oldest unsent note with room in the window.
The offer is a function of the state, so it is chosen afresh after each claim. -/
def NoteUnit.offer (bound : Bool) (u : NoteUnit) : Option Offer :=
  if bound then
    match u.due with
    | q :: _ => (u.inFlight.find? (fun n => n.sequence = q)).map Offer.resend
    | [] => u.firstOffer
  else none

/-! ## Grant and egress-done (R168, R169) -/

/-- R168: the note as it is sent, with the sequence and the lost count it carries. -/
def NoteUnit.sending (u : NoteUnit) : Offer → SentNote
  | .resend n => n
  | .first n => { note := n, sequence := u.nextSequence, lost := u.lost }

/-- R168: the Note Unit after the grant of an offer. -/
def NoteUnit.granted (u : NoteUnit) : Offer → NoteUnit
  | .resend n => { u with due := u.due.filter (fun q => q ≠ n.sequence) }
  | .first n =>
    { u with
      inFlight := u.inFlight ++ [{ note := n, sequence := u.nextSequence, lost := u.lost }]
      unsent := u.unsent.tail
      nextSequence := u.nextSequence + 1#16
      lost := 0 }

/-- R169: the egress-done of a NOTE frame. -/
def noteDone (s : State) : State :=
  let counted := signal .notesSent s
  if counted.nu.resendTimer.isNone && !counted.nu.inFlight.isEmpty then
    counted.withNu { counted.nu with resendTimer := counted.startTimer Config.resendMs }
  else counted

/-! ## The resend timer (R170) -/

/-- R170: the notes in flight that are not already due join the due set behind those that are (log entry 9). -/
def NoteUnit.allDue (u : NoteUnit) : NoteUnit :=
  { u with
    resendTimer := none
    due := u.due ++ (u.inFlight.map (·.sequence)).filter (fun q => !u.due.contains q) }

/-- R170: the resend timer expires. -/
def resendExpiry (s : State) : State := if timerDue s.timebase s.nu.resendTimer then s.withNu s.nu.allDue else s

/-- RESEND_TIMER_EXPIRY (R170). -/
def execResendTimerExpiry (s : State) : Host.Outcome State Fault Refusal := .next (resendExpiry s)

/-! ## ACK_NOTES (R171) -/

/-- R171: the notes in flight behind the one with the sequence; `none` when none in flight carries it. -/
def dropThrough (q : Half) : List SentNote → Option (List SentNote)
  | [] => none
  | n :: rest => if n.sequence = q then some rest else dropThrough q rest

/-- R171: the Note Unit after an acknowledgement that leaves `rest` in flight. -/
def NoteUnit.acknowledge (u : NoteUnit) (rest : List SentNote) (timer : Option Time) : NoteUnit :=
  { u with
    inFlight := rest
    due := u.due.filter (fun q => rest.any (fun n => n.sequence = q))
    resendTimer := if rest.isEmpty then none else timer }

/-- R171: ACK_NOTES. -/
def ownAckNotes : Owner := fun q s =>
  match dropThrough (halfAt q.payload 1) s.nu.inFlight with
  | none => (s, refuse .range)
  | some rest =>
    (s.withNu (s.nu.acknowledge rest (s.startTimer Config.resendMs)),
      .reply .ok [byteOf (s.nu.inFlight.length - rest.length), byteOf rest.length])

/-- ACK_NOTES (R171). -/
def execAckNotes (s : State) : Host.Outcome State Fault Refusal := .next (takeRequest (hasCode .ackNotes) ownAckNotes s)

/-! ## Binding (R156, R157, R173, R174) -/

/-- R174: each unsent note alike to an earlier one is merged into it. -/
def mergeAlike (l : List Note) : List Note :=
  l.foldl (fun acc n => if acc.any (fun m => m.alike n) then mergeInto n acc else acc ++ [n]) []

/-- R174: the Note Unit at an unbind: every note in flight reverts to unsent in its place. -/
def NoteUnit.unbind (u : NoteUnit) : NoteUnit :=
  { u with
    inFlight := []
    unsent := mergeAlike (u.inFlight.map (·.note) ++ u.unsent)
    lost := saturatingAdd Config.lostMax u.lost ((u.inFlight.map (·.lost)).sum)
    due := []
    resendTimer := none }

/-- R156: BIND. The Note Unit begins to offer (R173) because its offer reads the binding. -/
def ownBind : Owner := fun q s =>
  match s.ru.manager with
  | none => (s.withRu { s.ru with manager := some q.src }, .reply .ok [q.src])
  | some m => if q.src = m then (s, .reply .ok [m]) else (s, refuse .notManager)

/-- R157, R174: UNBIND. -/
def ownUnbind : Owner := fun q s =>
  match s.ru.manager with
  | none => (s, .reply .ok [])
  | some m =>
    if q.src = m then ((s.withRu { s.ru with manager := none }).withNu s.nu.unbind, .reply .ok []) else (s, refuse .notManager)

/-- BIND (R156). -/
def execBind (s : State) : Host.Outcome State Fault Refusal := .next (takeRequest (hasCode .bind) ownBind s)

/-- UNBIND (R157). -/
def execUnbind (s : State) : Host.Outcome State Fault Refusal := .next (takeRequest (hasCode .unbind) ownUnbind s)

end Sys2Proof.Machine
end

