-- ==== Sys2Proof/Machine/Points.lean ====
section
/-! DEFINITION. The Point Engine (chapters 2 and 3): the acceptance of a reading, the staleness expiry, and the requests on points and watches. -/

namespace Sys2Proof.Machine

/-! ## Runtime -/

/-- R22: the runtime as reset. -/
def PointRuntime.reset : PointRuntime where
  band := .unknown
  filtered := none
  lastRaw := none
  lastConverted := none
  min := none
  max := none
  count := 0
  lastSeen := none
  lastForwarded := none
  sinceForward := 0

/-- R57: the watch starts again: valid and tripped false, the rest kept. -/
def Watch.rearm (w : Watch) : Watch := { w with valid := false, tripped := false }

/-- R30: the staleness timer as started now, or stopped when max_age is absent. -/
def staleTimerFrom (now : Time) : Option Nat → Option Time
  | none => none
  | some age => some (expiryAfter now (hundredMs age))

/-! ## Conversion, filter and statistics (R27 to R29) -/

/-- R27: (raw × gain) ÷ 256 truncating toward zero, plus offset, saturated. -/
def PointConfig.convert (c : PointConfig) (raw : Int) : Int := saturateValue (truncDiv (raw * c.gain) 256 + c.offset)

/-- R28: the new filtered value; the filter restarts when filtered is absent or the band is UNKNOWN or STALE. -/
def smooth (shift : Fin 8) (r : PointRuntime) (c : Int) : Int :=
  match r.filtered with
  | none => c
  | some f => if r.band = .unknown ∨ r.band = .stale then c else f + truncDiv (c - f) (2 ^ shift.val)

/-- R29: the least and greatest converted values since they were cleared. -/
def least (m : Option Int) (c : Int) : Int := match m with | none => c | some v => if c < v then c else v
def greatest (m : Option Int) (c : Int) : Int := match m with | none => c | some v => if v < c then c else v

/-- R28, R29: filtered, the statistics and the last fields after an accepted reading. -/
def PointRuntime.accept (r : PointRuntime) (shift : Fin 8) (raw c : Int) (now : Time) : PointRuntime :=
  { r with
    filtered := some (smooth shift r c)
    lastRaw := some raw
    lastConverted := some c
    min := some (least r.min c)
    max := some (greatest r.max c)
    count := saturatingAdd Config.countMax r.count 1
    lastSeen := some now }

/-! ## Bands (R44 to R49) -/

/-- R45: the raw band of a value. -/
def Thresholds.rawBand (t : Thresholds) (v : Int) : Band :=
  if t.highCrit.any (fun h => decide (h ≤ v)) then .critHigh
  else if t.highWarn.any (fun h => decide (h ≤ v)) then .warnHigh
  else if t.lowCrit.any (fun h => decide (v ≤ h)) then .critLow
  else if t.lowWarn.any (fun h => decide (v ≤ h)) then .warnLow
  else .normal

/-- R44: the rank of a band on the high side, 0 for NORMAL and for any band of no high side. -/
def Band.highRank : Band → Nat
  | .warnHigh => 1 | .critHigh => 2 | .unknown | .normal | .warnLow | .critLow | .stale => 0

/-- R44: the rank of a band on the low side. -/
def Band.lowRank : Band → Nat
  | .warnLow => 1 | .critLow => 2 | .unknown | .normal | .warnHigh | .critHigh | .stale => 0

/-- R47, R48: the band after a reading that finds the point in `held` with filtered value `f`. -/
def nextBand (t : Thresholds) (hyst : Nat) (held : Band) (f : Int) : Band :=
  let r := t.rawBand f
  match held with
  | .unknown | .stale | .normal => r
  | .warnHigh | .critHigh =>
    if 0 < r.lowRank ∨ held.highRank ≤ r.highRank then r
    else
      let c := t.rawBand (f + hyst)
      if held.highRank ≤ c.highRank then held else c
  | .warnLow | .critLow =>
    if 0 < r.highRank ∨ held.lowRank ≤ r.lowRank then r
    else
      let c := t.rawBand (f - hyst)
      if held.lowRank ≤ c.lowRank then held else c

/-- R50: the severity of a BAND note by the new band. -/
def Band.severity : Band → Severity
  | .critHigh | .critLow => .crit
  | .warnHigh | .warnLow => .warn
  | .normal | .unknown | .stale => .info

/-- R50: a band change raises a BAND note when band_notes is set, but for UNKNOWN to NORMAL. -/
def raisesBandNote (c : PointConfig) (old new : Band) : Bool :=
  c.bandNotes && old != new && !(old = .unknown && new = .normal)

/-- R51: a band change of an escalating point is reported when the new band is critical or the old one was critical or STALE. -/
def reportsBand (c : PointConfig) (old new : Band) : Bool :=
  c.escalate && old != new && (new.critical || old.critical || old = .stale)

/-! ## Watch (R53, R54) and forward decision (R58 to R61) -/

/-- R53: the filtered value is beyond the threshold. -/
def Watch.beyond (w : Watch) (f : Int) : Bool :=
  match w.direction with
  | .above => w.threshold < f
  | .below => f < w.threshold

/-- R53: the watch after a reading; (true, true) holds. -/
def Watch.evaluate (w : Watch) (f : Int) : Watch :=
  if w.valid && w.tripped then w else { w with valid := true, tripped := w.beyond f }

/-- R54: the evaluation turns tripped from false to true and the note flag is set. -/
def watchNotes (w : Option Watch) (f : Int) : Bool := w.any (fun w => w.note && !w.tripped && (w.evaluate f).tripped)

/-- R59, R60: the reading with converted value `c` stays in its frame; `changed` is the mark of R52. -/
def stays (cfg : PointConfig) (r : PointRuntime) (changed : Bool) (c : Int) : Bool :=
  match cfg.forward with
  | .pass => true
  | .suppress => false
  | .onChange =>
    changed || cfg.refresh ≤ r.sinceForward + 1
      || (match r.lastForwarded with
          | none => true
          | some f => cfg.deadband ≤ (c - f).natAbs)

/-- R59, R60: the forwarding state after the decision. -/
def PointRuntime.forwarded (r : PointRuntime) (policy : ForwardPolicy) (kept : Bool) (c : Int) : PointRuntime :=
  match policy with
  | .pass | .suppress => r
  | .onChange => if kept then { r with lastForwarded := some c, sinceForward := 0 } else { r with sinceForward := r.sinceForward + 1 }

/-! ## Readings (R24 to R26) -/

/-- R24: the index of the occupied record with a key; by R23 there is at most one. -/
def findKey (s : State) (k : Key) : Option (Fin 256) :=
  (List.finRange 256).find? (fun i => (s.point i).any (fun p => p.config.key = k))

/-- R26: the record after steps 1 to 4: converted, filtered, statistics, timer and band. -/
def Point.measured (p : Point) (raw : Int) (now : Time) : Point :=
  let c := p.config.convert raw
  let r := p.runtime.accept p.config.shift raw c now
  { p with
    runtime := { r with band := nextBand p.config.thresholds p.config.hyst p.runtime.band (smooth p.config.shift p.runtime c) }
    staleTimer := if p.config.maxAge.isSome then staleTimerFrom now p.config.maxAge else p.staleTimer }

/-- R26: the record after steps 5 and 6, `kept` being the forward decision. -/
def Point.decided (p : Point) (f c : Int) (kept : Bool) : Point :=
  { p with
    watch := p.watch.map (fun w => w.evaluate f)
    runtime := p.runtime.forwarded p.config.forward kept c }

/-- R50, R51, R26: what step 4 hands on: the BAND note, the report, the hand-off to the supervisors, in that order. -/
def handBandOn (i : Fin 256) (cfg : PointConfig) (old new : Band) (f : Int) (s : State) : State :=
  let noted := if raisesBandNote cfg old new then raise .band (some i.val) new.code new.severity s else s
  let reported := if reportsBand cfg old new then reportBand i new noted else noted
  handFeedback i f reported

/-- R26: a matched GOOD reading is accepted at record `i`, which holds `p`; with whether it stays in its frame. -/
def acceptReading (i : Fin 256) (p : Point) (raw : Int) (s : State) : State × Bool :=
  let c := p.config.convert raw
  let f := smooth p.config.shift p.runtime c
  let m := p.measured raw s.timebase
  let kept := stays p.config p.runtime (p.runtime.band != m.runtime.band) c
  let handed := handBandOn i p.config p.runtime.band m.runtime.band f (s.setPoint i (some m))
  let decided := handed.setPoint i (some (m.decided f c kept))
  let watched := if watchNotes p.watch f then raise .watch (some i.val) f .info decided else decided
  (if kept then watched else signal .readingsSuppressed watched, kept)

/-- R24, R25: one reading of a SAMPLE from node `src`; with whether it stays in its frame. -/
def takeReading (src : Byte) (r : Reading) (s : State) : State × Bool :=
  match findKey s { node := src, channel := r.channel } with
  | none => (signal .readingsUnmatched s, true)
  | some i =>
    let matched := signal .readingsMatched s
    if r.failed then (matched, true)
    else
      match s.point i with
      | none => (matched, true)
      | some p => acceptReading i p r.raw matched

/-- R24, R62: the readings of a frame in order, with those that stay. -/
def takeReadings (src : Byte) : List Reading → State → State × List Reading
  | [], s => (s, [])
  | r :: rest, s =>
    let a := takeReading src r s
    let b := takeReadings src rest a.1
    (b.1, if a.2 then r :: b.2 else b.2)

/-! ## Staleness (R31) -/

/-- R31: the record after its staleness timer expires. -/
def Point.wentStale (p : Point) : Point := { p with runtime := { p.runtime with band := .stale }, staleTimer := none }

/-- R31: the staleness timer of a record expires. A member of the critical set stays one (R96). -/
def stalenessExpiry (i : Fin 256) (s : State) : State :=
  match s.point i with
  | none => s
  | some p =>
    if timerDue s.timebase p.staleTimer then
      let staled := s.setPoint i (some p.wentStale)
      let noted := if p.config.bandNotes then raise .stale (some i.val) p.runtime.band.code .warn staled else staled
      handStaleness i noted
    else s

/-- STALENESS_EXPIRY (R31). -/
def execStalenessExpiry (i : Fin 256) (s : State) : Host.Outcome State Fault Refusal := .next (stalenessExpiry i s)

/-! ## Point requests (R34 to R41) -/

/-- R34: another occupied record holds the key. -/
def keyTaken (s : State) (i : Fin 256) (k : Key) : Bool :=
  (List.finRange 256).any (fun j => j ≠ i && (s.point j).any (fun p => p.config.key = k))

/-- R34: some regulator names the point as its feedback point. -/
def feedbackNamed (s : State) (i : Fin 256) : Bool := (List.finRange 32).any (fun r => (s.reg r).feedsBack i)

/-- R35: a record as a write occupies it. -/
def Point.occupied (c : PointConfig) (now : Time) : Point where
  config := c
  runtime := PointRuntime.reset
  staleTimer := staleTimerFrom now c.maxAge
  watch := none

/-- R36: a record after a write that changes its key. -/
def Point.rekeyed (p : Point) (c : PointConfig) (now : Time) : Point :=
  { Point.occupied c now with watch := p.watch.map Watch.rearm }

/-- R30: the staleness timer after a write with the same key. -/
def timerAfterWrite (p : Point) (c : PointConfig) (now : Time) : Option Time :=
  if c.maxAge = p.config.maxAge then p.staleTimer
  else if c.maxAge.isNone then none
  else if p.runtime.band = .stale then p.staleTimer
  else staleTimerFrom now c.maxAge

/-- R37: a record after a write with the same key. -/
def Point.rewritten (p : Point) (c : PointConfig) (now : Time) : Point :=
  { p with config := c, staleTimer := timerAfterWrite p c now }

/-- R35 to R37: a write that passed its checks. -/
def carryOutWrite (i : Fin 256) (c : PointConfig) (s : State) : State :=
  match s.point i with
  | none => s.setPoint i (some (Point.occupied c s.timebase))
  | some p =>
    if p.config.key = c.key then
      let written := s.setPoint i (some (p.rewritten c s.timebase))
      if c.escalate then written else leaveCritical i written
    else leaveCritical i (s.setPoint i (some (p.rekeyed c s.timebase)))

/-- R34: WRITE_POINT's three stages. -/
def ownWritePoint : Owner := fun q s =>
  let i := pointOf (byteAt q.payload 1)
  match pointConfig? q.payload with
  | none => (s, refuse .range)
  | some c =>
    if keyTaken s i c.key then (s, refuse .duplicateKey)
    else if feedbackNamed s i && c.kind != .speed then (s, refuse .inUse)
    else (carryOutWrite i c s, .reply .ok [byteAt q.payload 1])

/-- The watch fields of a READ_POINT reply; zeros when no watch is present (R194). -/
def watchBytes : Option Watch → List Byte
  | none => [0, 0, 0, 0, 0, 0]
  | some w => valueBytes w.threshold ++ [w.direction.code, flagByte w.note, flagByte w.valid, flagByte w.tripped]

/-- R39 and section 11.7: the data of a READ_POINT reply. -/
def readPointData (i : Byte) (p : Point) (now : Time) : List Byte :=
  [i] ++ p.config.bytes ++ [byteOf p.runtime.band.code, p.presence]
    ++ optValueBytes p.runtime.filtered ++ optValueBytes p.runtime.lastRaw ++ optValueBytes p.runtime.lastConverted
    ++ optValueBytes p.runtime.min ++ optValueBytes p.runtime.max ++ natBytes p.runtime.count
    ++ optTimeBytes p.runtime.lastSeen ++ optValueBytes p.runtime.lastForwarded ++ [byteOf p.runtime.sinceForward]
    ++ watchBytes p.watch ++ bytes32 now

/-- R39: READ_POINT. -/
def ownReadPoint : Owner := fun q s =>
  match s.point (pointOf (byteAt q.payload 1)) with
  | none => (s, refuse .notFound)
  | some p => (s, .reply .ok (readPointData (byteAt q.payload 1) p s.timebase))

/-- R40: DELETE_POINT. -/
def ownDeletePoint : Owner := fun q s =>
  let i := pointOf (byteAt q.payload 1)
  if (s.point i).isNone then (s, refuse .notFound)
  else if pointNamed s i then (s, refuse .inUse)
  else (leaveCritical i (s.setPoint i none), .reply .ok [byteAt q.payload 1])

/-- R41: FIND_POINT. -/
def ownFindPoint : Owner := fun q s =>
  match nodeChannel? (numAt q.payload 2) with
  | none => (s, refuse .range)
  | some channel =>
    if nodeValid (byteAt q.payload 1) then
      match findKey s { node := byteAt q.payload 1, channel := channel } with
      | none => (s, refuse .notFound)
      | some i => (s, .reply .ok [byteOf i.val])
    else (s, refuse .range)

/-- R55: SET_WATCH writes a fresh watch. -/
def ownSetWatch : Owner := fun q s =>
  let i := pointOf (byteAt q.payload 1)
  match watchDirection? (byteAt q.payload 4), flag? (byteAt q.payload 5) with
  | some direction, some note =>
    match s.point i with
    | none => (s, refuse .notFound)
    | some p =>
      let w : Watch :=
        { threshold := valueAt q.payload 2, direction := direction, note := note, valid := false, tripped := false }
      (s.setPoint i (some { p with watch := some w }), .reply .ok [byteAt q.payload 1])
  | _, _ => (s, refuse .range)

/-- R56: CLEAR_WATCH removes the watch. -/
def ownClearWatch : Owner := fun q s =>
  let i := pointOf (byteAt q.payload 1)
  match s.point i with
  | none => (s, refuse .notFound)
  | some p => (s.setPoint i (some { p with watch := none }), .reply .ok [byteAt q.payload 1])

/-- WRITE_POINT (R34 to R38). -/
def execWritePoint (s : State) : Host.Outcome State Fault Refusal := .next (takeRequest (hasCode .writePoint) ownWritePoint s)

/-- READ_POINT (R39). -/
def execReadPoint (s : State) : Host.Outcome State Fault Refusal := .next (takeRequest (hasCode .readPoint) ownReadPoint s)

/-- DELETE_POINT (R40). -/
def execDeletePoint (s : State) : Host.Outcome State Fault Refusal := .next (takeRequest (hasCode .deletePoint) ownDeletePoint s)

/-- FIND_POINT (R41). -/
def execFindPoint (s : State) : Host.Outcome State Fault Refusal := .next (takeRequest (hasCode .findPoint) ownFindPoint s)

/-- SET_WATCH (R55). -/
def execSetWatch (s : State) : Host.Outcome State Fault Refusal := .next (takeRequest (hasCode .setWatch) ownSetWatch s)

/-- CLEAR_WATCH (R56). -/
def execClearWatch (s : State) : Host.Outcome State Fault Refusal := .next (takeRequest (hasCode .clearWatch) ownClearWatch s)

end Sys2Proof.Machine
end

