-- ==== Sys2Proof/Machine/Chain.lean ====
section
/-! DEFINITION. The Chain Interface (chapter 1): the receiver, the ingress check and the classifier, forwarding, the egress arbiter, and the
commands on them; with TIMEBASE_ADVANCE, COLD_RESET and SET_CHAIN. -/

namespace Sys2Proof.Machine

/-! ## Link (R5) -/

/-- R5: the value of a LINK note. -/
def outage (endedAt start : Time) : Nat := min 65535 (endedAt - start).toNat

/-- R5: a valid frame that ended at `endedAt` raises a DOWN link, with a LINK note when the down-start time is present; no note in
TRANSPARENT mode. -/
def raiseLink (endedAt : Time) (s : State) : State :=
  match s.ci.link with
  | .up => s
  | .down =>
    let up := s.withCi { s.ci with link := .up, downStart := none }
    match s.ci.downStart with
    | none => up
    | some t => if s.transparent then up else raise .link none (outage endedAt t) .warn up

/-! ## Forwarding (R10, R11) -/

/-- R11: a frame is offered to the transit queue. -/
def joinTransit (f : Frame) (s : State) : State :=
  if s.ci.transit.length < Config.transitMax then s.withCi { s.ci with transit := s.ci.transit ++ [f] }
  else signal .transitDrop s

/-- R10: a frame to be forwarded. -/
def forward (f : Frame) (s : State) : State :=
  if f.hops = 0 ∨ f.hops = 1 then signal .hopExpired s else joinTransit { f with hops := f.hops - 1#8 } s

/-! ## Classification (R6 to R9) -/

/-- R7, R8: a frame that is consumed when its dest is the own address, and forwarded otherwise. -/
def consumeOrForward (f : Frame) (s : State) : State := if f.dest = s.ownAddress then s else forward f s

/-- R62: the frame the Point Engine returns. -/
def Frame.withReadings (f : Frame) (rs : List Reading) : Frame := { f with payload := rs.flatMap Reading.bytes }

/-- R8, R62, R63: the Point Engine returns a SAMPLE with the readings that stay; it is dropped when none does. -/
def returnSample (f : Frame) (kept : List Reading) (s : State) : State :=
  if kept.isEmpty then s else consumeOrForward (f.withReadings kept) s

/-- R8, R38: the Point Engine takes at most `n` of the readings left of a SAMPLE, in order, and returns the frame when none is left. -/
def readSome (n : Nat) (w : SampleInWork) (s : State) : State :=
  let a := takeReadings w.frame.src (w.left.take n) s
  if (w.left.drop n).isEmpty then returnSample w.frame (w.kept ++ a.2) a.1
  else a.1.withCi { a.1.ci with sample := some { frame := w.frame, kept := w.kept ++ a.2, left := w.left.drop n } }

/-- R38: the Point Engine takes a SAMPLE to its end, unless it may be divided and the sender's choice divides it (log entry 23). -/
def readOn (divisible : Bool) (w : SampleInWork) (s : State) : State :=
  match divisible, s.turns with
  | true, .readings n :: rest => readSome n.val w (s.withTurns rest)
  | _, _ => readSome w.left.length w s

/-- R8: a well-formed SAMPLE goes to the Point Engine; any other is consumed or forwarded. -/
def takeSample (divisible : Bool) (f : Frame) (s : State) : State :=
  if sampleWellFormed f.payload then readOn divisible { frame := f, kept := [], left := readingsOf f.payload } s
  else consumeOrForward f s

/-- R9: a REQ addressed to the part joins the input FIFO, or is dropped at a full one. -/
def takeReq (f : Frame) (s : State) : State :=
  if s.ru.fifo.length < Config.fifoMax then
    s.withRu { s.ru with fifo := s.ru.fifo ++ [{ src := f.src, seq := f.seq, payload := f.payload }] }
  else signal .reqDropped s

/-- R7: a valid frame that is not stripped goes to its owner, is consumed or is forwarded, by its type and its dest. -/
def classify (divisible : Bool) (f : Frame) (s : State) : State :=
  if f.type = typeSample then takeSample divisible f s
  else if f.dest = s.ownAddress then
    if f.type = typeSetAck then takeAck f.src f.seq f.payload s
    else if f.type = typeReq then takeReq f s
    else if f.type = typeRsp ∨ f.type = typeNote then s
    else forward f s
  else forward f s

/-- R6, R7, R12: what becomes of a valid frame: forwarded in TRANSPARENT mode, stripped when its src is the own address, or
classified. -/
def takeValid (divisible : Bool) (f : Frame) (s : State) : State :=
  if s.transparent then forward f s else if f.src = s.ownAddress then s else classify divisible f s

/-! ## The egress arbiter (R15 to R18) -/

/-- R15, R119: a channel is a candidate in SENDING until its SET is granted. -/
def Channel.waiting (k : Channel) : Bool := k.state = .sending && !k.transmitting

/-- R18: the channels in the order of the search, upward from the one after the pointer, wrapping from 15 to 0. -/
def searchOrder (pointer : Fin 16) : List (Fin 16) := (List.finRange 16).map (fun k => pointer + 1 + k)

/-- R18: the channel whose SET is to be granted. -/
def nextChannel (s : State) : Option (Fin 16) := (searchOrder s.ci.roundRobin).find? (fun c => (s.chan c).waiting)

/-- R167: the note the Note Unit offers. -/
def noteOffer (s : State) : Option Offer := s.nu.offer s.ru.manager.isSome

/-- R15: a transit frame waits. -/
def transitWaiting (s : State) : Bool := !s.ci.transit.isEmpty

/-- R12, R15: the part has a frame of its own waiting; none in TRANSPARENT mode. -/
def originatedWaiting (s : State) : Bool :=
  !s.transparent && (s.ru.slot.isSome || (nextChannel s).isSome || (noteOffer s).isSome)

/-- R16: the class granted, if any candidate waits. -/
def classGranted (s : State) : Option EgressClass :=
  match transitWaiting s, originatedWaiting s with
  | false, false => none
  | true, false => some .transit
  | false, true => some .originated
  | true, true => if s.ci.lastClass = some .transit then some .originated else some .transit

/-- R16: with the port FREE and no candidate waiting the port is idle, and the last class is none (log entry 5). -/
def settleIdlePort (s : State) : State :=
  if s.ci.port = .free && (classGranted s).isNone then s.withCi { s.ci with lastClass := none } else s

/-- R16: the port becomes BUSY with a granted frame. -/
def grantPort (cls : EgressClass) (p : Producer) (bytes : List Byte) (s : State) : State :=
  s.withCi { s.ci with port := .busy p bytes, lastClass := some cls }

/-- R13: the frame of an originated payload, with src the own address and hops the hop budget. -/
def originate (dest type seq : Byte) (payload : List Byte) (s : State) : Frame :=
  { dest := dest, src := s.ownAddress, type := type, hops := s.ci.hopBudget, seq := seq, payload := payload }

/-- R11: the head of the transit queue is granted. -/
def grantTransit (s : State) : State :=
  match s.ci.transit with
  | [] => s
  | f :: rest => grantPort .transit .transit f.bytes (s.withCi { s.ci with transit := rest })

/-- R154: the slot is emptied and the head of the ready list moves into it. -/
def RequestUnit.advance (u : RequestUnit) : RequestUnit := { u with slot := u.ready.head?, ready := u.ready.tail }

/-- R154: the reply in the slot is granted. -/
def grantReply (r : Reply) (s : State) : State :=
  grantPort .originated .reply (originate r.src typeRsp r.seq r.payload s).bytes (s.withRu s.ru.advance)

/-- R18, R119: a channel's SET is granted. -/
def grantSet (c : Fin 16) (s : State) : State :=
  let k := s.chan c
  let frame := originate k.config.node typeSet k.seq
    (setPayload k.config.nodeChannel (k.inFlight.getD Config.unstatedLevel)) s
  let sent := s.setChan c { k with transmitting := true }
  grantPort .originated (.channel c) frame.bytes (sent.withCi { s.ci with roundRobin := c })

/-- R168: the offered note is granted to the manager at `dest`. -/
def grantNote (dest : Byte) (o : Offer) (s : State) : State :=
  let n := s.nu.sending o
  grantPort .originated .note (originate dest typeNote (n.sequence.setWidth 8) n.payload s).bytes (s.withNu (s.nu.granted o))

/-- R17: the originated class is granted: a reply first, then a SET, then the note. -/
def grantOriginated (s : State) : State :=
  match s.ru.slot, nextChannel s, s.ru.manager, noteOffer s with
  | some r, _, _, _ => grantReply r s
  | none, some c, _, _ => grantSet c s
  | none, none, some m, some o => grantNote m o s
  | none, none, _, _ => s

/-- R16: with the port FREE and a candidate waiting, one frame is granted. -/
def egressGrant (s : State) : State :=
  if s.ci.port = .free then
    match classGranted s with
    | none => s
    | some .transit => grantTransit s
    | some .originated => grantOriginated s
  else s

/-- EGRESS_GRANT (R13, R16 to R18). -/
def execEgressGrant (s : State) : Host.Outcome State Fault Refusal := .next (egressGrant s)

/-- R19: the egress-done event reaches the producer of the frame. -/
def deliverDone (p : Producer) (s : State) : State :=
  match p with
  | .transit => signal .framesForwarded s
  | .reply => s
  | .channel c => setDone c s
  | .note => noteDone s

/-- R19, R16: the port becomes FREE, the producer is told, and the port is idle when nothing waits. -/
def egressDone (s : State) : State :=
  match s.ci.port with
  | .free => s
  | .busy p _ => settleIdlePort (deliverDone p (s.withCi { s.ci with port := .free }))

/-- EGRESS_DONE (R19). -/
def execEgressDone (s : State) : Host.Outcome State Fault Refusal := .next (egressDone s)

/-! ## The receiver (R2 to R4) -/

/-- R2 to R7: the frame that awaits the checks is counted, checked and classified; nothing when none waits. -/
def takeAwaiting (divisible : Bool) (s : State) : State :=
  match s.ci.rx.awaiting with
  | none => s
  | some f =>
    let counted := signal .framesIn (s.withCi { s.ci with rx := { s.ci.rx with awaiting := none } })
    if ingressPasses f then settleIdlePort (takeValid divisible (frameOfBytes f.bytes) (raiseLink f.endedAt counted))
    else signal .crcError counted

/-- R2, R8, R38: a SAMPLE the Point Engine has begun goes on; else the frame that awaits the checks is taken. -/
def frameEnd (divisible : Bool) (s : State) : State :=
  match s.ci.sample with
  | some w => settleIdlePort (readOn divisible w (s.withCi { s.ci with sample := none }))
  | none => takeAwaiting divisible s

/-- FRAME_END (R2, R38). -/
def execFrameEnd (s : State) : Host.Outcome State Fault Refusal := .next (frameEnd true s)

/-- R2: the frame in reception ends and awaits the checks. The checks of the frame before it, and the Point Engine's work on it, are
complete first (log entry 4). -/
def endFrame (ending : FrameEnding) (bytes : List Byte) (next : Option (List Byte)) (s : State) : State :=
  let ready := frameEnd false s
  let ended : EndedFrame := { bytes := bytes, ending := ending, endedAt := s.timebase }
  ready.withCi { ready.ci with rx := { collecting := next, awaiting := some ended } }

/-- The receiver starts collecting, ignores or goes on collecting. -/
def collect (bytes : Option (List Byte)) (s : State) : State :=
  s.withCi { s.ci with rx := { s.ci.rx with collecting := bytes } }

/-- R2: a delimiter ends a frame that has data bytes and starts a new one. -/
def takeDelimiter (s : State) : State :=
  match s.ci.rx.collecting with
  | some (b :: bs) => endFrame .delimited (b :: bs) (some []) s
  | some [] | none => collect (some []) s

/-- R2: a data byte is collected, or ends the frame as over-length when it is the 69th, or is ignored. -/
def takeData (b : Byte) (s : State) : State :=
  match s.ci.rx.collecting with
  | none => s
  | some bs =>
    if bs.length < Config.frameMax then collect (some (bs ++ [b])) s else endFrame .overLength (bs ++ [b]) none s

/-- R4: the link-down timer is started at every symbol. -/
def startLinkTimer (s : State) : State := s.withCi { s.ci with linkTimer := s.startTimer Config.linkDownMs }

/-- R2, R4: one symbol on CIN. -/
def receiveSymbol (symbol : Symbol) (s : State) : State :=
  match symbol with
  | .idle => startLinkTimer s
  | .delimiter => takeDelimiter (startLinkTimer s)
  | .data b => takeData b (startLinkTimer s)

/-- SYMBOL_RECEIVED (R2, R4). -/
def execSymbolReceived (symbol : Symbol) (s : State) : Host.Outcome State Fault Refusal := .next (receiveSymbol symbol s)

/-- R2, R3: a frame in reception is ended as truncated: it is counted, fails the ingress check, and data bytes are ignored up to the
next delimiter (log entry 4). -/
def truncateFrame (s : State) : State :=
  match s.ci.rx.collecting with
  | some (_ :: _) => signal .crcError (signal .framesIn (collect none s))
  | some [] | none => s

/-- R4: an UP link goes DOWN, its down-start time 20 ms before the expiry; the timer stops. -/
def linkDown (expiry : Time) (s : State) : State :=
  match s.ci.link with
  | .up =>
    s.withCi
      { s.ci with linkTimer := none, link := .down, downStart := some (expiry - BitVec.ofNat 32 Config.linkDownMs) }
  | .down => s.withCi { s.ci with linkTimer := none }

/-- R4: the link-down timer expires. A frame that still awaits the checks, or a SAMPLE in work, is completed first, in its order (R2). -/
def linkDownExpiry (s : State) : State :=
  match s.ci.linkTimer with
  | none => s
  | some e => if timerDue s.timebase (some e) then linkDown e (truncateFrame (frameEnd false s)) else s

/-- LINK_DOWN_TIMER_EXPIRY (R4). -/
def execLinkDownTimerExpiry (s : State) : Host.Outcome State Fault Refusal := .next (linkDownExpiry s)

/-! ## Timebase, cold reset and SET_CHAIN -/

/-- R195: the count advances by one and wraps; the channels' marks of this moment go (log entry 24). -/
def advanceTimebase (s : State) : State := (s.withChans (s.chans.map Channel.settleMark)).withTimebase (s.timebase + 1#32)

/-- TIMEBASE_ADVANCE (R195). -/
def execTimebaseAdvance (s : State) : Host.Outcome State Fault Refusal := .next (advanceTimebase s)

/-- COLD_RESET (R1, R20): every block takes its cold reset state. The queue of commands and the
choices of order are no part of the device and are kept. -/
def execColdReset (straps : BitVec 7) (s : State) : Host.Outcome State Fault Refusal :=
  .next (((State.cold straps).withPending s.pending).withTurns s.turns)

/-- R14: SET_CHAIN takes a hop budget of 1 to 255. -/
def ownSetChain : Owner := fun q s =>
  let v := byteAt q.payload 1
  if v = 0 then (s, refuse .range) else (s.withCi { s.ci with hopBudget := v }, .reply .ok [v])

/-- SET_CHAIN (R14). -/
def execSetChain (s : State) : Host.Outcome State Fault Refusal := .next (takeRequest (hasCode .setChain) ownSetChain s)

end Sys2Proof.Machine
end

