-- ==== Sys2Proof/Machine/Regulators.lean ====
section
/-! DEFINITION. The Regulator Engine's commands (chapter 4) and those of manual control (chapter 7): the period timer and the requests. -/

namespace Sys2Proof.Machine

/-! ## Period timer (R71) -/

/-- R71: the period timer expires in AUTO or FAILSAFE (evaluation) or in OVERRIDE (ceiling), and is started again. -/
def periodExpiry (r : Fin 32) (s : State) : State :=
  let g := s.reg r
  if timerDue s.timebase g.periodTimer then
    match g.state with
    | .auto | .failsafe => startPeriod r (evaluate true r s)
    | .override => startPeriod r (assertCeiling r s)
    | .disabled | .handover | .manual => s
  else s

/-- PERIOD_TIMER_EXPIRY (R71). -/
def execPeriodTimerExpiry (r : Fin 32) (s : State) : Host.Outcome State Fault Refusal := .next (periodExpiry r s)

/-! ## WRITE_REGULATOR (R82, R84, R85) -/

/-- R84, stage 1: the points the configuration names are occupied, and the feedback point is of kind SPEED. -/
def pointsUsable (s : State) (c : RegulatorConfig) : Bool :=
  c.inputs.all (fun p => (s.point p).isSome)
    && c.feedback.all (fun p => (s.point p).any (fun q => q.config.kind = .speed))

/-- R84, stage 2: a structural field differs. -/
def structuralChange (a b : RegulatorConfig) : Bool :=
  !(a.inputs = b.inputs && a.combine = b.combine && a.actuator = b.actuator && a.feedback = b.feedback)

/-- R84, stage 3: another configured regulator names the channel. -/
def channelTaken (s : State) (r : Fin 32) (c : Fin 16) : Bool :=
  (List.finRange 32).any (fun q => q ≠ r && (s.reg q).namesChannel c)

/-- R82: a change of participate acts on the override at once. `before` is the record as it stood. -/
def participateChange (r : Fin 32) (before : Regulator) (c : RegulatorConfig) (s : State) : State :=
  if before.config.participate && !c.participate then (if before.state = .override then evaluate true r s else s)
  else if !before.config.participate && c.participate then
    (if (before.state = .auto || before.state = .failsafe) && overriding s then assertCeiling r s else s)
  else s

/-- R84, R85: WRITE_REGULATOR. -/
def ownWriteRegulator : Owner := fun q s =>
  match regulatorIndex? (numAt q.payload 1), regulatorConfig? q.payload with
  | some r, some c =>
    let g := s.reg r
    if !pointsUsable s c then (s, refuse .range)
    else if g.state != .disabled && structuralChange g.config c then (s, refuse .state)
    else if channelTaken s r c.actuator then (s, refuse .conflict)
    else (participateChange r g c (s.setReg r { g with config := c }), .reply .ok [byteOf r.val])
  | _, _ => (s, refuse .range)

/-- R86: WRITE_CURVE. -/
def ownWriteCurve : Owner := fun q s =>
  match regulatorIndex? (numAt q.payload 1) with
  | none => (s, refuse .range)
  | some r =>
    let curve := breakpointsOf (q.payload.drop 2)
    if curveValid curve then (s.setReg r { s.reg r with curve := curve }, .reply .ok [byteOf r.val]) else (s, refuse .range)

/-! ## READ_REGULATOR (R87) -/

/-- Section 11.7: the data of part 0. -/
def regulatorPart0 (r : Fin 32) (s : State) : List Byte :=
  let g := s.reg r
  [byteOf r.val, 0, byteOf g.state.code, g.presence, regulatorFlags g (s.sup r)]
    ++ optNatBytes g.output ++ optNatBytes g.manualLevel ++ optTimeBytes g.periodTimer ++ bytes32 s.timebase
    ++ g.config.bytes ++ g.config.inputs.map (fun p => byteOf p.val)

/-- Section 11.7: the data of part 1. -/
def regulatorPart1 (r : Fin 32) (s : State) : List Byte :=
  [byteOf r.val, 1] ++ bytes32 s.timebase ++ (s.reg r).curve.flatMap Breakpoint.bytes

/-- R87, R193: READ_REGULATOR; a part above 1 is refused with RANGE. -/
def ownReadRegulator : Owner := fun q s =>
  match regulatorIndex? (numAt q.payload 1) with
  | none => (s, refuse .range)
  | some r =>
    if numAt q.payload 2 = 0 then (s, .reply .ok (regulatorPart0 r s))
    else if numAt q.payload 2 = 1 then (s, .reply .ok (regulatorPart1 r s))
    else (s, refuse .range)

/-! ## Enable and disable (R88 to R90) -/

/-- R88: the regulator can be enabled. -/
def enableable (s : State) (g : Regulator) : Bool :=
  g.state = .disabled && g.configured && 2 ≤ g.curve.length && (s.chan g.config.actuator).bound

/-- R89: what an enable first sets. -/
def Regulator.readied (g : Regulator) : Regulator :=
  { g with output := none, offLatched := false, manualLevel := none, handover := none }

/-- R89, R105: an enable that passes its checks. -/
def carryOutEnable (r : Fin 32) (s : State) : State :=
  enableSupervisor r (startPeriod r (resumeControl r (s.setReg r (s.reg r).readied)))

/-- R88, R89: ENABLE_REGULATOR. -/
def ownEnableRegulator : Owner := fun q s =>
  match regulatorIndex? (numAt q.payload 1) with
  | none => (s, refuse .range)
  | some r => if enableable s (s.reg r) then (carryOutEnable r s, .reply .ok [byteOf r.val]) else (s, refuse .state)

/-- R90: a record as a disable leaves it. -/
def Regulator.disable (g : Regulator) : Regulator :=
  { g with state := .disabled, periodTimer := none, manualLevel := none, handover := none }

/-- R90, R143: a disable in any state. -/
def carryOutDisable (r : Fin 32) (s : State) : State :=
  let cancelled := cancelHandover r s
  resetSupervisor r (cancelled.setReg r (cancelled.reg r).disable)

/-- R90: DISABLE_REGULATOR. -/
def ownDisableRegulator : Owner := fun q s =>
  match regulatorIndex? (numAt q.payload 1) with
  | none => (s, refuse .range)
  | some r => (carryOutDisable r s, .reply .ok [byteOf r.val])

/-! ## Manual control (R136 to R144) -/

/-- R137, R138: the record as TAKE_MANUAL moves it, into MANUAL or into HANDOVER with its entry. -/
def Regulator.take (g : Regulator) (new : RegulatorState) (level : Nat) (entry : Option EntryRef) : Regulator :=
  { g with state := new, periodTimer := none, manualLevel := some level, handover := entry }

/-- R136, R142: a new manual level in MANUAL is written to the channel. -/
def setManual (r : Fin 32) (level : Nat) (s : State) : State :=
  writeManual r (s.setReg r { s.reg r with manualLevel := some level })

/-- R137: TAKE_MANUAL takes the regulator into MANUAL at once, and its level is written to the channel. -/
def enterManual (r : Fin 32) (level : Nat) (s : State) : State × Verdict :=
  let g := s.reg r
  (writeManual r (s.setReg r (g.take .manual level none)), .reply .ok (manualReply r level (s.chan g.config.actuator).faulted))

/-- R139: the read of the channel comes first: the write that has just opened the exchange comes together with it, and the sender has
chosen so (log entry 24). -/
def readComesFirst (k : Channel) (s : State) : Bool := k.writtenTogether && s.turns.head? = some .readFirst

/-- R136 to R139: TAKE_MANUAL by the regulator's state and the channel as it is read. -/
def takeManualAt (q : Request) (r : Fin 32) (level : Nat) (s : State) : State × Verdict :=
  let g := s.reg r
  let k := s.chan g.config.actuator
  match g.state with
  | .disabled => (s, refuse .state)
  | .handover => (s, refuse .busy)
  | .manual => (setManual r level s, .reply .ok (manualReply r level k.faulted))
  | .auto | .failsafe | .override =>
    if !k.exchangeOpen then enterManual r level s
    else if readComesFirst k s then enterManual r level (s.withTurns s.turns.tail)
    else if s.ru.pendingCount < Config.pendingMax then (s.setReg r (g.take .handover level (some q.ref)), .deferred)
    else (s, refuse .busy)

/-- R136: TAKE_MANUAL. -/
def ownTakeManual : Owner := fun q s =>
  match regulatorIndex? (numAt q.payload 1) with
  | none => (s, refuse .range)
  | some r => if num16At q.payload 2 ≤ Config.levelMax then takeManualAt q r (num16At q.payload 2) s else (s, refuse .range)

/-- R142: SET_MANUAL_LEVEL by the regulator's state; its channel-faulted flag is always 0 (section 11.7). -/
def setManualAt (r : Fin 32) (level : Nat) (s : State) : State × Verdict :=
  match (s.reg r).state with
  | .manual => (setManual r level s, .reply .ok (manualReply r level false))
  | .handover => (s.setReg r { s.reg r with manualLevel := some level }, .reply .ok (manualReply r level false))
  | .disabled | .auto | .failsafe | .override => (s, refuse .state)

/-- R142: SET_MANUAL_LEVEL. -/
def ownSetManualLevel : Owner := fun q s =>
  match regulatorIndex? (numAt q.payload 1) with
  | none => (s, refuse .range)
  | some r => if num16At q.payload 2 ≤ Config.levelMax then setManualAt r (num16At q.payload 2) s else (s, refuse .range)

/-- R144, step 2: output takes the manual level. -/
def Regulator.released (g : Regulator) : Regulator :=
  { g with output := g.manualLevel, manualLevel := none, offLatched := false, handover := none }

/-- R144: the four steps of a release. -/
def carryOutRelease (r : Fin 32) (s : State) : State :=
  let cancelled := cancelHandover r s
  startPeriod r (resumeControl r (cancelled.setReg r (cancelled.reg r).released))

/-- R144: RELEASE_MANUAL. -/
def ownReleaseManual : Owner := fun q s =>
  match regulatorIndex? (numAt q.payload 1) with
  | none => (s, refuse .range)
  | some r =>
    match (s.reg r).state with
    | .manual | .handover => (carryOutRelease r s, .reply .ok [byteOf r.val])
    | .disabled | .auto | .failsafe | .override => (s, refuse .state)

/-! ## Commands -/

/-- WRITE_REGULATOR (R84, R85). -/
def execWriteRegulator (s : State) : Host.Outcome State Fault Refusal :=
  .next (takeRequest (hasCode .writeRegulator) ownWriteRegulator s)

/-- WRITE_CURVE (R86). -/
def execWriteCurve (s : State) : Host.Outcome State Fault Refusal := .next (takeRequest (hasCode .writeCurve) ownWriteCurve s)

/-- READ_REGULATOR (R87). -/
def execReadRegulator (s : State) : Host.Outcome State Fault Refusal :=
  .next (takeRequest (hasCode .readRegulator) ownReadRegulator s)

/-- ENABLE_REGULATOR (R88, R89). -/
def execEnableRegulator (s : State) : Host.Outcome State Fault Refusal :=
  .next (takeRequest (hasCode .enableRegulator) ownEnableRegulator s)

/-- DISABLE_REGULATOR (R90, R143). -/
def execDisableRegulator (s : State) : Host.Outcome State Fault Refusal :=
  .next (takeRequest (hasCode .disableRegulator) ownDisableRegulator s)

/-- TAKE_MANUAL (R136 to R139). -/
def execTakeManual (s : State) : Host.Outcome State Fault Refusal :=
  .next (takeRequest (hasCode .takeManual) ownTakeManual s)

/-- SET_MANUAL_LEVEL (R142). -/
def execSetManualLevel (s : State) : Host.Outcome State Fault Refusal :=
  .next (takeRequest (hasCode .setManualLevel) ownSetManualLevel s)

/-- RELEASE_MANUAL (R144). -/
def execReleaseManual (s : State) : Host.Outcome State Fault Refusal :=
  .next (takeRequest (hasCode .releaseManual) ownReleaseManual s)

end Sys2Proof.Machine
end

