-- ==== Sys2Proof/Machine/PartWide.lean ====
section
/-! DEFINITION. The part-wide requests of the Request Unit (chapter 8): IDENTIFY, READ_STATUS, RESTART, CLEAR_ALL, and the malformed request. -/

namespace Sys2Proof.Machine

/-! ## IDENTIFY and READ_STATUS -/

/-- R158 and section 11.7: the data of an IDENTIFY reply. -/
def identifyData (s : State) : List Byte :=
  [byteOf Config.vendorCode] ++ natBytes Config.partCode ++ [byteOf Config.siliconRevision, s.ownAddress] ++ natBytes 256
    ++ [32, 16, 4, byteOf Config.queueMax, byteOf Config.windowMax, byteOf Config.recentMax]

/-- R158: IDENTIFY. -/
def ownIdentify : Owner := fun _ s => (s, .reply .ok (identifyData s))

/-- R159: the Override Monitor's group. -/
def State.overrideStatus (s : State) : OverrideStatus where
  phase := s.om.phase
  holdTime := s.om.holdTime
  count := s.om.critical.length
  members := s.om.critical.take 8

/-- R159: the Sweep Unit's group. -/
def State.sweepStatus (s : State) : Option SweepStatus :=
  s.sweep.map (fun d => { first := d.first, last := d.last, next := d.next })

/-- R159: the Request Unit's group. -/
def State.requestStatus (s : State) : RequestStatus where
  manager := s.ru.manager
  pending := s.ru.pendingCount
  waiting := s.ru.fifo.length

/-- R159: the Chain Interface's group. -/
def State.chainStatus (s : State) : ChainStatus where
  link := s.ci.link
  hopBudget := s.ci.hopBudget

/-- R159: the Note Unit's group. -/
def State.noteStatus (s : State) : NoteStatus where
  depth := s.nu.depth
  inFlight := s.nu.inFlight.length
  alert := s.alertAsserted

/-- The groups of R159. -/
def StatusGroup.all : List StatusGroup :=
  [.overrideMonitor, .sweepUnit, .requestUnit, .chainInterface, .trafficCounters, .noteUnit]

/-- A group is read once: what was read stays, and one not yet read is read if it is named now. -/
def readOnce {α : Type} (now : Bool) (value : α) : Option α → Option α
  | some v => some v
  | none => if now then some value else none

/-- R159: a READ_STATUS at the moment it is taken, with no group read. -/
def StatusRead.begun (now : Time) : StatusRead where
  taken := now
  override := none
  sweep := none
  requests := none
  chain := none
  frozen := none
  notes := none

/-- R159: the groups named, as far as they are not yet read, are read from their blocks, each as one claim. -/
def StatusRead.read (r : StatusRead) (gs : List StatusGroup) (s : State) : StatusRead where
  taken := r.taken
  override := readOnce (gs.contains .overrideMonitor) s.overrideStatus r.override
  sweep := readOnce (gs.contains .sweepUnit) s.sweepStatus r.sweep
  requests := readOnce (gs.contains .requestUnit) s.requestStatus r.requests
  chain := readOnce (gs.contains .chainInterface) s.chainStatus r.chain
  frozen := readOnce (gs.contains .trafficCounters) s.counters.frozen r.frozen
  notes := readOnce (gs.contains .noteUnit) s.noteStatus r.notes

/-- R159: the members listed, in ascending order, the rest sent 0. -/
def memberBytes (members : List (Fin 256)) : List Byte :=
  members.map (fun p => byteOf p.val) ++ List.replicate (8 - members.length) 0

/-- R194: the sweep fields of READ_STATUS, 0 while no sweep is in progress. -/
def sweepBytes : Option SweepStatus → List Byte
  | none => [0, 0, 0, 0]
  | some d => [byteOf d.first, byteOf d.last] ++ natBytes d.next

/-- Section 11.7: the data of a READ_STATUS reply from its groups. -/
def statusData (taken : Time) (o : OverrideStatus) (w : Option SweepStatus) (u : RequestStatus) (c : ChainStatus) (frozen : Bool)
    (n : NoteStatus) : List Byte :=
  [o.phase.code, byteOf o.holdTime] ++ natBytes o.count ++ memberBytes o.members
    ++ [statusFlags w.isSome u.manager.isSome frozen n.alert] ++ sweepBytes w
    ++ [u.manager.getD 0, byteOf u.pending, byteOf u.waiting, c.link.code, c.hopBudget, byteOf n.depth, byteOf n.inFlight]
    ++ bytes32 taken

/-- The data of the reply, once every group is read. -/
def StatusRead.data? (r : StatusRead) : Option (List Byte) := do
  return statusData r.taken (← r.override) (← r.sweep) (← r.requests) (← r.chain) (← r.frozen) (← r.notes)

/-- R159: what a READ_STATUS that has come so far returns: the reply, or that groups are left to read. -/
def StatusRead.verdict (r : StatusRead) : Verdict :=
  match r.data? with
  | some data => .reply .ok data
  | none => .reading r

/-- R159: a READ_STATUS reads the groups that the sender's choice names, or, where it meets none, all that are left (log entry 10). -/
def readStatusOn (r : StatusRead) (s : State) : State × Verdict :=
  match s.turns with
  | .groups gs :: rest => (s.withTurns rest, (r.read gs s).verdict)
  | _ => (s, (r.read StatusGroup.all s).verdict)

/-- R159: READ_STATUS. -/
def ownReadStatus : Owner := fun _ s => readStatusOn (StatusRead.begun s.timebase) s

/-- R159: the READ_STATUS in execution goes on. -/
def continueReadStatus (x : Execution) (s : State) : State :=
  let done := readStatusOn x.read (s.withRu (s.ru.executing none))
  finish x.request done.2 done.1

/-! ## RESTART -/

/-- R43: a point record at RESTART. -/
def Point.restart (p : Point) (now : Time) : Point :=
  { p with runtime := PointRuntime.reset, watch := p.watch.map Watch.rearm, staleTimer := staleTimerFrom now p.config.maxAge }

/-- R134: a channel at RESTART; seq and desired are kept. -/
def Channel.restart (k : Channel) : Channel :=
  { k.endExchange with state := .idle, acked := none, probing := false, ackTimer := none, probeTimer := none }

/-- R92: a regulator record at RESTART, before its evaluation or its write of a level. -/
def Regulator.restart (g : Regulator) : Regulator :=
  match g.state with
  | .manual | .handover => { g with state := .manual, offLatched := false, handover := none, periodTimer := none }
  | .disabled => { g with offLatched := false, manualLevel := none, handover := none, periodTimer := none }
  | .auto | .failsafe | .override => { g with offLatched := false, manualLevel := none, handover := none }

/-- R92: one regulator at RESTART, after points, Override Monitor and channels have taken their RESTART values. -/
def restartRegulator (r : Fin 32) (s : State) : State :=
  let g := s.reg r
  let set := s.setReg r g.restart
  match g.state with
  | .disabled => set
  | .manual | .handover => writeManual r set
  | .auto | .failsafe | .override => startPeriod r (evaluate false r set)

/-- R178: the RESTARTED note, whose value is the number of notes the RESTART removed. -/
def restartedNote (removed : Nat) (now : Time) : Note :=
  { kind := .restarted, subject := none, value := removed, severity := .info, timestamp := now }

/-- R178: the Note Unit at RESTART; the next sequence is kept. -/
def NoteUnit.restart (u : NoteUnit) (now : Time) : NoteUnit :=
  { NoteUnit.cleared with nextSequence := u.nextSequence, unsent := [restartedNote u.depth now] }

/-- R160: the Request Unit at RESTART and CLEAR_ALL; the entry of the request itself is added as its execution ends. -/
def RequestUnit.clearOut (u : RequestUnit) : RequestUnit := { u with fifo := [], recent := [] }

/-- R43, R111, R134, R160, R178, R186: what RESTART does to every block but the regulators. The supervisors are reset, so the
changes of acked told to them (R134) have no further effect. -/
def restartBlocks (s : State) : State :=
  { s with
    points := s.points.map (Option.map (fun p => p.restart s.timebase))
    om := OverrideMonitor.cleared s.om.holdTime
    sups := Vector.replicate 32 Supervisor.reset
    chans := s.chans.map Channel.restart
    ru := s.ru.clearOut
    nu := s.nu.restart s.timebase
    sweep := none }

/-- R92, R160: RESTART. The requests discarded from the FIFO give their REQ_DROPPED events after every block has taken its values
(log entry 11). -/
def ownRestart : Owner := fun _ s =>
  (signalTimes .reqDropped s.ru.fifo.length (forEachRegulator restartRegulator (restartBlocks s)),
    .reply .ok (bytes32 s.timebase))

/-! ## CLEAR_ALL -/

/-- R42, R91, R110, R133, R160, R177, R186, R191: CLEAR_ALL. The CI, the binding, the hold time and the Timebase are kept. -/
def clearBlocks (s : State) : State :=
  { s with
    points := Vector.replicate 256 none
    regs := Vector.replicate 32 Regulator.default
    om := OverrideMonitor.cleared s.om.holdTime
    sups := Vector.replicate 32 Supervisor.reset
    chans := Vector.replicate 16 Channel.default
    ru := s.ru.clearOut
    nu := NoteUnit.cleared
    sweep := none
    counters := TrafficCounters.cleared }

/-- R160: CLEAR_ALL; its REQ_DROPPED events meet selectors already OFF. -/
def ownClearAll : Owner := fun _ s =>
  (signalTimes .reqDropped s.ru.fifo.length (clearBlocks s), .reply .ok (bytes32 s.timebase))

/-! ## Commands -/

/-- IDENTIFY (R158). -/
def execIdentify (s : State) : Host.Outcome State Fault Refusal := .next (takeRequest (hasCode .identify) ownIdentify s)

/-- READ_STATUS (R159): the one in execution goes on; with none in execution one is taken. -/
def execReadStatus (s : State) : Host.Outcome State Fault Refusal :=
  .next (match s.ru.execution with
    | some x => continueReadStatus x s
    | none => takeRequest (hasCode .readStatus) ownReadStatus s)

/-- RESTART (R160). -/
def execRestart (s : State) : Host.Outcome State Fault Refusal := .next (takeRequest (hasCode .restart) ownRestart s)

/-- CLEAR_ALL (R160). -/
def execClearAll (s : State) : Host.Outcome State Fault Refusal := .next (takeRequest (hasCode .clearAll) ownClearAll s)

/-- R150: an empty payload or an undefined code reaches no owner. -/
def ownMalformed : Owner := fun _ s => (s, refuse .badRequest)

/-- MALFORMED_REQUEST (R150): a request whose payload is empty or whose code is not defined. -/
def execMalformedRequest (s : State) : Host.Outcome State Fault Refusal :=
  .next (takeRequest (fun q => q.code?.isNone) ownMalformed s)

end Sys2Proof.Machine
end

