-- ==== Sys2Proof/Machine/Sweeps.lean ====
section
/-! DEFINITION. The Sweep Unit and the counter requests (chapter 10). -/

namespace Sys2Proof.Machine

/-! ## SWEEP (R179) -/

/-- R179, stage 1: the range and the actions are defined. -/
def sweepInRange (first last actions : Nat) : Bool := first ≤ last && last ≤ 255 && 1 ≤ actions && actions < 4

/-- R179: the descriptor of an accepted sweep. -/
def sweepStart (q : Request) (now : Time) : Sweep where
  first := num16At q.payload 1
  last := num16At q.payload 3
  stats := (byteAt q.payload 5).getLsbD 0
  rebase := (byteAt q.payload 5).getLsbD 1
  next := num16At q.payload 1
  visited := 0
  entry := q.ref
  stepTimer := some (expiryAfter now Config.sweepStepMs)

/-- R179: SWEEP. -/
def ownSweep : Owner := fun q s =>
  if !sweepInRange (num16At q.payload 1) (num16At q.payload 3) (numAt q.payload 5) then (s, refuse .range)
  else if s.sweep.isSome || Config.pendingMax ≤ s.ru.pendingCount then (s, refuse .busy)
  else (s.withSweep (some (sweepStart q s.timebase)), .deferred)

/-- SWEEP (R179). -/
def execSweep (s : State) : Host.Outcome State Fault Refusal := .next (takeRequest (hasCode .sweep) ownSweep s)

/-! ## Visits (R181 to R183) -/

/-- R182: the STATS action. -/
def PointRuntime.clearStats (r : PointRuntime) : PointRuntime := { r with count := 0, min := none, max := none }

/-- R183: the REBASE action on the runtime: count, min and max are kept. -/
def PointRuntime.rebase (r : PointRuntime) : PointRuntime :=
  { PointRuntime.reset with count := r.count, min := r.min, max := r.max }

/-- R182: a record after the STATS action. -/
def Point.clearStats (p : Point) : Point := { p with runtime := p.runtime.clearStats }

/-- R183: a record after the REBASE action. -/
def Point.rebase (p : Point) (now : Time) : Point :=
  { p with runtime := p.runtime.rebase, watch := p.watch.map Watch.rearm, staleTimer := staleTimerFrom now p.config.maxAge }

/-- R181: a record after a visit of a sweep with these actions. -/
def Point.visited (p : Point) (d : Sweep) (now : Time) : Point :=
  let q := if d.stats then p.clearStats else p
  if d.rebase then q.rebase now else q

/-- R181, R183: the effect of a visit on the record at `i` and on the critical set. -/
def visitRecord (d : Sweep) (i : Fin 256) (s : State) : State :=
  match s.point i with
  | none => s
  | some p =>
    let acted := s.setPoint i (some (p.visited d s.timebase))
    if d.rebase then leaveCritical i acted else acted

/-- R180, R181: one visit of the sweep in progress, to the index `next`; nothing once `next` has passed `last`. -/
def visit (s : State) : State :=
  match s.sweep with
  | none => s
  | some d =>
    match pointIndex? d.next with
    | none => s
    | some i =>
      if d.next ≤ d.last then
        let counted := d.visited + (if (s.point i).isSome then 1 else 0)
        (visitRecord d i s).withSweep (some { d with next := d.next + 1, visited := counted })
      else s

/-- R180, R185: after the visits of an expiry the step timer is started again, or the sweep completes. -/
def sweepAfterVisits (s : State) : State :=
  match s.sweep with
  | none => s
  | some d =>
    if d.next ≤ d.last then s.withSweep (some { d with stepTimer := s.startTimer Config.sweepStepMs })
    else completeEntry d.entry .sweep .ok (natBytes d.visited) (s.withSweep none)

/-- R180: the step timer expires and up to 16 indices are visited. -/
def sweepStep (s : State) : State :=
  match s.sweep with
  | none => s
  | some d => if timerDue s.timebase d.stepTimer then sweepAfterVisits (Nat.repeat visit Config.sweepBatch s) else s

/-- SWEEP_STEP_EXPIRY (R180). -/
def execSweepStepExpiry (s : State) : Host.Outcome State Fault Refusal := .next (sweepStep s)

/-! ## Counter requests (R189, R190) -/

/-- R189: WRITE_COUNTERS. -/
def ownWriteCounters : Owner := fun q s =>
  match counterEntries? q.payload with
  | none => (s, refuse .range)
  | some v => (s.withCounters { counter := v, frozen := false }, .reply .ok [])

/-- R190 and section 11.7: the data of a READ_COUNTERS reply. -/
def readCountersData (t : TrafficCounters) (now : Time) : List Byte :=
  t.counter.toList.flatMap Counter.bytes ++ [flagByte t.frozen] ++ bytes32 now

/-- R190: READ_COUNTERS. -/
def ownReadCounters : Owner := fun _ s => (s, .reply .ok (readCountersData s.counters s.timebase))

/-- WRITE_COUNTERS (R189). -/
def execWriteCounters (s : State) : Host.Outcome State Fault Refusal :=
  .next (takeRequest (hasCode .writeCounters) ownWriteCounters s)

/-- READ_COUNTERS (R190). -/
def execReadCounters (s : State) : Host.Outcome State Fault Refusal := .next (takeRequest (hasCode .readCounters) ownReadCounters s)

end Sys2Proof.Machine
end

