-- ==== Sys2Proof/Machine/Dispatch.lean ====
section
/-! DEFINITION. The commands and their meanings: one arm for each constructor of Instr. No arm reads or writes the queue. -/

namespace Sys2Proof.Machine

/-- The effect of a command on everything but the queue of commands. -/
def exec (i : Instr) (s : State) : Host.Outcome State Fault Refusal :=
  match i with
  | .coldReset straps => Sys2Proof.Machine.execColdReset straps s
  | .timebaseAdvance => Sys2Proof.Machine.execTimebaseAdvance s
  | .frameEnd => Sys2Proof.Machine.execFrameEnd s
  | .linkDownTimerExpiry => Sys2Proof.Machine.execLinkDownTimerExpiry s
  | .egressGrant => Sys2Proof.Machine.execEgressGrant s
  | .egressDone => Sys2Proof.Machine.execEgressDone s
  | .stalenessExpiry point => Sys2Proof.Machine.execStalenessExpiry point s
  | .periodTimerExpiry regulator => Sys2Proof.Machine.execPeriodTimerExpiry regulator s
  | .holdTimerExpiry => Sys2Proof.Machine.execHoldTimerExpiry s
  | .stallWindowExpiry regulator => Sys2Proof.Machine.execStallWindowExpiry regulator s
  | .ackTimerExpiry channel => Sys2Proof.Machine.execAckTimerExpiry channel s
  | .probeTimerExpiry channel => Sys2Proof.Machine.execProbeTimerExpiry channel s
  | .resendTimerExpiry => Sys2Proof.Machine.execResendTimerExpiry s
  | .sweepStepExpiry => Sys2Proof.Machine.execSweepStepExpiry s
  | .identify => Sys2Proof.Machine.execIdentify s
  | .readStatus => Sys2Proof.Machine.execReadStatus s
  | .bind => Sys2Proof.Machine.execBind s
  | .unbind => Sys2Proof.Machine.execUnbind s
  | .restart => Sys2Proof.Machine.execRestart s
  | .clearAll => Sys2Proof.Machine.execClearAll s
  | .setChain => Sys2Proof.Machine.execSetChain s
  | .setOverride => Sys2Proof.Machine.execSetOverride s
  | .writePoint => Sys2Proof.Machine.execWritePoint s
  | .readPoint => Sys2Proof.Machine.execReadPoint s
  | .deletePoint => Sys2Proof.Machine.execDeletePoint s
  | .findPoint => Sys2Proof.Machine.execFindPoint s
  | .setWatch => Sys2Proof.Machine.execSetWatch s
  | .clearWatch => Sys2Proof.Machine.execClearWatch s
  | .writeRegulator => Sys2Proof.Machine.execWriteRegulator s
  | .writeCurve => Sys2Proof.Machine.execWriteCurve s
  | .readRegulator => Sys2Proof.Machine.execReadRegulator s
  | .enableRegulator => Sys2Proof.Machine.execEnableRegulator s
  | .disableRegulator => Sys2Proof.Machine.execDisableRegulator s
  | .takeManual => Sys2Proof.Machine.execTakeManual s
  | .setManualLevel => Sys2Proof.Machine.execSetManualLevel s
  | .releaseManual => Sys2Proof.Machine.execReleaseManual s
  | .writeActuator => Sys2Proof.Machine.execWriteActuator s
  | .readActuator => Sys2Proof.Machine.execReadActuator s
  | .resetActuator => Sys2Proof.Machine.execResetActuator s
  | .ackNotes => Sys2Proof.Machine.execAckNotes s
  | .sweep => Sys2Proof.Machine.execSweep s
  | .writeCounters => Sys2Proof.Machine.execWriteCounters s
  | .readCounters => Sys2Proof.Machine.execReadCounters s
  | .symbolReceived symbol => Sys2Proof.Machine.execSymbolReceived symbol s
  | .malformedRequest => Sys2Proof.Machine.execMalformedRequest s

end Sys2Proof.Machine
end

