-- ==== Sys2Proof/Safety.lean ====
section
/-! DEFINITION. What counts as a safe run: every command completes (`Safe`), and the laws of the spec that hold of every state a run
reaches, block by block. Each law says which rule it states; clauses that the spec does not put as a law but that its rules keep are
marked DEDUCED. -/

namespace Sys2Proof.Machine

/-- A command completes: it neither faults nor is refused. -/
def Completes (o : Host.Outcome State Fault Refusal) : Prop := ∃ t, o = .next t

/-! ## Note Unit (R164, R170) -/

/-- R164: the sequences in flight are consecutive modulo 65536, ascending from the oldest; the next sequence follows the newest. -/
def consecutiveUpTo (next : Half) : List SentNote → Prop
  | [] => True
  | n :: rest => n.sequence = next - BitVec.ofNat 16 (rest.length + 1) ∧ consecutiveUpTo next rest

/-- R164: at most 32 notes, at most 4 in flight, the unsent ones pairwise unlike, none in flight while no manager is bound, sequences
consecutive. R170: the due set holds notes in flight, each once. DEDUCED: the resend timer runs only with a note in flight (R169 to
R171, R174), and lost counts stay at most 255 (R166, R174). -/
structure NoteLaw (s : State) : Prop where
  depth : s.nu.depth ≤ 32
  window : s.nu.inFlight.length ≤ 4
  unlike : s.nu.unsent.Pairwise (fun a b => a.alike b = false)
  bound : s.ru.manager = none → s.nu.inFlight = []
  sequences : consecutiveUpTo s.nu.nextSequence s.nu.inFlight
  due_in_flight : ∀ q ∈ s.nu.due, ∃ n ∈ s.nu.inFlight, n.sequence = q
  due_once : s.nu.due.Nodup
  timer : s.nu.resendTimer.isSome → s.nu.inFlight ≠ []
  lost : s.nu.lost ≤ 255 ∧ ∀ n ∈ s.nu.inFlight, n.lost ≤ 255

/-! ## Override Monitor (R94, R98, R175) -/

/-- The point may stand in the critical set (R94): occupied, escalating, and CRIT_HIGH, CRIT_LOW or STALE. -/
def Point.mayBeCritical (p : Point) : Bool :=
  p.config.escalate && (p.runtime.band = .critHigh || p.runtime.band = .critLow || p.runtime.band = .stale)

/-- R94: every member of the critical set may be critical, and the set holds each index once, ascending (log entry 17). R98: ACTIVE
exactly when the set is non-empty; a regulator stands in OVERRIDE only while the phase is ACTIVE or HOLDING and it participates. R175:
the alert record's override part follows the phase. DEDUCED (R98 to R101): the hold timer runs exactly in HOLDING, the start time is
present exactly outside CLEAR. -/
structure OverrideLaw (s : State) : Prop where
  members : ∀ i ∈ s.om.critical, ∃ p, s.point i = some p ∧ p.mayBeCritical
  once : s.om.critical.Nodup
  ascending : s.om.critical.Pairwise (· < ·)
  active : s.om.phase = .active ↔ s.om.critical ≠ []
  hold : s.om.holdTimer.isSome ↔ s.om.phase = .holding
  start : s.om.startTime.isSome ↔ s.om.phase ≠ .clear
  regulators : ∀ r, (s.reg r).state = .override → s.om.phase ≠ .clear ∧ (s.reg r).config.participate = true
  alert : s.nu.alert.override = true ↔ s.om.phase ≠ .clear

/-! ## Point Table (R22, R23, R30, R33, R34, R53, R60) -/

/-- The values and ranges of section 2.1 for a configuration. -/
structure PointConfig.InRange (c : PointConfig) : Prop where
  node : nodeValid c.key.node = true
  gain : -32768 ≤ c.gain ∧ c.gain ≤ 32767
  offset : -32768 ≤ c.offset ∧ c.offset ≤ 32767
  ascending : c.thresholds.ascending = true
  hyst : c.hyst ≤ 255
  maxAge : maxAgeValid c.maxAge = true
  deadband : c.deadband ≤ 32767
  refresh : 1 ≤ c.refresh ∧ c.refresh ≤ 255

/-- A present value is an engineering value. -/
def valueInRange (v : Option Int) : Prop := ∀ x, v = some x → -32768 ≤ x ∧ x ≤ 32767

/-- One occupied record. R33: a fresh point has filtered present. R30: the staleness timer is stopped in STALE, and otherwise runs
exactly when max_age is present. Section 3.4: a watch is never (false, true). R60: since_forward stays within 0 to 254. The ranges
are those of section 2.1. -/
structure Point.Lawful (p : Point) : Prop where
  config : p.config.InRange
  fresh : p.fresh = true → p.runtime.filtered.isSome
  unknown : p.runtime.band = .unknown → p.runtime.filtered = none
  timer : p.staleTimer.isSome ↔ p.config.maxAge.isSome ∧ p.runtime.band ≠ .stale
  watch : ∀ w, p.watch = some w → ¬ (w.valid = false ∧ w.tripped = true)
  filtered : valueInRange p.runtime.filtered
  converted : valueInRange p.runtime.lastConverted
  count : p.runtime.count ≤ 65535
  since : p.runtime.sinceForward ≤ 254

/-- R23: no two occupied records have the same key; every occupied record is lawful. -/
structure PointLaw (s : State) : Prop where
  keys : ∀ i j p q, s.point i = some p → s.point j = some q → p.config.key = q.config.key → i = j
  records : ∀ i p, s.point i = some p → p.Lawful

/-! ## Regulators and channels (R66 to R68, R112, R113, R135) -/

/-- R84, stage 1: the ranges of section 4.1 that a WRITE_REGULATOR must keep. -/
structure RegulatorConfig.InRange (c : RegulatorConfig) : Prop where
  inputs : 1 ≤ c.inputs.length ∧ c.inputs.length ≤ 6 ∧ c.inputs.Nodup
  offHyst : c.offHyst ≤ 255
  ceiling : 1 ≤ c.ceiling ∧ c.ceiling ≤ 1000
  failsafe : c.failsafe ≤ c.ceiling
  slew : 1 ≤ c.slew ∧ c.slew ≤ 1000
  period : 1 ≤ c.period ∧ c.period ≤ 255
  stallWindow : 1 ≤ c.stallWindow ∧ c.stallWindow ≤ 100

/-- The ranges of section 4.1 for a record, configured or not; a curve is empty or passes R86. -/
structure Regulator.InRange (g : Regulator) : Prop where
  inputs : g.config.inputs.length ≤ 6 ∧ g.config.inputs.Nodup
  offHyst : g.config.offHyst ≤ 255
  ceiling : 1 ≤ g.config.ceiling ∧ g.config.ceiling ≤ 1000
  failsafe : g.config.failsafe ≤ g.config.ceiling
  slew : 1 ≤ g.config.slew ∧ g.config.slew ≤ 1000
  period : 1 ≤ g.config.period ∧ g.config.period ≤ 255
  stallWindow : 1 ≤ g.config.stallWindow ∧ g.config.stallWindow ≤ 100
  curve : g.curve = [] ∨ curveValid g.curve = true
  output : ∀ l, g.output = some l → l ≤ 1000
  manual : ∀ l, g.manualLevel = some l → l ≤ 1000

/-- The regulator is under closed-loop control: AUTO, FAILSAFE or OVERRIDE. -/
def RegulatorState.controlling (x : RegulatorState) : Bool := x = .auto || x = .failsafe || x = .override

/-- Section 4.2, R70, R135: which runtime fields are present in which state. -/
structure Regulator.Lawful (g : Regulator) : Prop where
  ranges : g.InRange
  manual : g.manualLevel.isSome ↔ g.state = .manual ∨ g.state = .handover
  handover : g.handover.isSome ↔ g.state = .handover
  timer : g.periodTimer.isSome ↔ g.state.controlling = true
  output : g.state.controlling = true → g.output.isSome
  enabled : g.state ≠ .disabled → g.configured = true ∧ 2 ≤ g.curve.length

/-- R67: the points that regulators name are occupied, and named feedback points are of kind SPEED. R68: no channel is named by two
regulators, and a regulator not in DISABLED names a bound channel. -/
structure RegulatorLaw (s : State) : Prop where
  records : ∀ r, (s.reg r).Lawful
  inputs : ∀ r i, i ∈ (s.reg r).config.inputs → (s.point i).isSome
  feedback : ∀ r i, (s.reg r).feedsBack i = true → ∃ p, s.point i = some p ∧ p.config.kind = .speed
  channels : ∀ r q c, (s.reg r).namesChannel c = true → (s.reg q).namesChannel c = true → r = q
  bound : ∀ r, (s.reg r).state ≠ .disabled → (s.chan (s.reg r).config.actuator).bound = true

/-- Section 6.1: which runtime fields are present in which state, and the ranges. DEDUCED: probing is clear in IDLE, retries is 0
outside an open exchange (R122, R123, R126, R130, R132). -/
structure Channel.Lawful (k : Channel) : Prop where
  node : k.config.node.toNat ≤ 126
  ackTimeout : 1 ≤ k.config.ackTimeout ∧ k.config.ackTimeout ≤ 255
  retryLimit : k.config.retryLimit ≤ 7
  retries : k.retries ≤ 7
  idle_retries : k.exchangeOpen = false → k.retries = 0
  inFlight : k.inFlight.isSome ↔ k.exchangeOpen = true
  ackTimer : k.ackTimer.isSome ↔ k.state = .awaitAck
  probeTimer : k.probeTimer.isSome ↔ k.state = .fault
  transmitting : k.transmitting = true → k.state = .sending
  probing : k.probing = true → k.state ≠ .idle
  working : k.state ≠ .idle → k.bound = true ∧ k.desired.isSome
  acked : ∀ l, k.acked = some l → l ≤ 1000

/-- R113: bound channels differ in node or output. A channel that transmits has the port (R119). R114, R175: the alert record holds
exactly the faulted channels. -/
structure ChannelLaw (s : State) : Prop where
  records : ∀ c, (s.chan c).Lawful
  bindings : ∀ c d, (s.chan c).bound = true → (s.chan c).config.node = (s.chan d).config.node →
    (s.chan c).config.nodeChannel = (s.chan d).config.nodeChannel → c = d
  wire : ∀ c, (s.chan c).transmitting = true → ∃ bytes, s.ci.port = .busy (.channel c) bytes
  alert : ∀ c, c ∈ s.nu.alert.faulted ↔ (s.chan c).faulted = true

/-- Levels on a channel are levels: 0 to 1000 (section 2.1 of the conventions). -/
def LevelLaw (s : State) : Prop :=
  ∀ c, (∀ l, (s.chan c).desired = some l → l ≤ 1000) ∧ (∀ l, (s.chan c).inFlight = some l → l ≤ 1000)

/-! ## Stall supervisors (R104, R105, R108, R175) -/

/-- R104: a supervisor that is not active stands in its reset state. R105, R107: the window timer runs only while armed and with
STALLED clear. R175: the alert record holds exactly the STALLED regulators. -/
structure SupervisorLaw (s : State) : Prop where
  inactive : ∀ r, (s.reg r).supervised = false → s.sup r = Supervisor.reset
  window : ∀ r, (s.sup r).window.isSome → armed s r = true ∧ (s.sup r).stalled = false
  alert : ∀ r, r ∈ s.nu.alert.stalled ↔ (s.sup r).stalled = true

/-! ## Request Unit (R146, R149, R153) and Sweep Unit (R180) -/

/-- The entries that wait for a completion: those of the regulators in HANDOVER, ascending, then the sweep's. -/
def awaited (s : State) : List EntryRef :=
  (List.finRange 32).filterMap (fun r => (s.reg r).handover) ++ (s.sweep.map (·.entry)).toList

/-- R146, R149, R153: the FIFO holds at most 4 requests, the list at most 4 entries with distinct pairs, at most 3 of them PENDING, each
PENDING one belonging to exactly one regulator in HANDOVER or to the sweep; the ready list is empty behind an empty slot, and replies
and PENDING entries together are at most 4. R147, R156: entries and manager are node addresses. A request in execution is a READ_STATUS with a
group left to read (R159, log entry 10): its src is a node address, its pair is new, and the list and the ready list have room for its entry
and its reply. -/
structure RequestLaw (s : State) : Prop where
  fifo : s.ru.fifo.length ≤ 4
  slot : s.ru.slot = none → s.ru.ready = []
  recent : s.ru.recent.length ≤ 4
  pairs : (s.ru.recent.map (·.ref)).Nodup
  pending : s.ru.pendingCount ≤ 3
  replies : s.ru.pendingCount + s.ru.slot.toList.length + s.ru.ready.length ≤ 4
  owners : (awaited s).Nodup
  owned : ∀ ref, ref ∈ awaited s ↔ { ref := ref, status := .pending } ∈ s.ru.recent
  nodes : ∀ e ∈ s.ru.recent, srcUsable e.ref.src = true
  manager : ∀ m, s.ru.manager = some m → srcUsable m = true
  executing : ∀ x, s.ru.execution = some x →
    x.request.payload = [2] ∧ srcUsable x.request.src = true ∧ (∀ e ∈ s.ru.recent, e.ref ≠ x.request.ref) ∧ s.ru.recent.length ≤ 3 ∧
      s.ru.pendingCount + s.ru.slot.toList.length + s.ru.ready.length ≤ 3 ∧ x.read.data? = none

/-- R180: the next index of a sweep in progress; between steps an index is left. R179: the actions are not empty. R181: visited counts
visits. -/
def SweepLaw (s : State) : Prop :=
  ∀ d, s.sweep = some d →
    d.first ≤ d.next ∧ d.next ≤ d.last ∧ d.last ≤ 255 ∧ (d.stats = true ∨ d.rebase = true) ∧ d.visited ≤ d.next - d.first
      ∧ d.stepTimer.isSome

/-! ## Chain Interface (R2, R4, R5, R11, R16) -/

/-- R11: at most 8 frames in transit. R2: at most 68 bytes in reception; a frame that awaits the checks has bytes. R4, R5: an UP link has
its timer running and no down-start time. R14: the hop budget is not 0. R2, R8, R38: the Point Engine has at most one SAMPLE in work, with
readings left, at most 8 in all, and no frame awaits the checks meanwhile. DEDUCED: with the port FREE and no candidate the last class is
none (R16, log entry 5); once the link-down timer is stopped nothing is in reception, awaits the checks or is in work (log entry 4). -/
structure ChainLaw (s : State) : Prop where
  transit : s.ci.transit.length ≤ 8
  collecting : ∀ bs, s.ci.rx.collecting = some bs → bs.length ≤ 68
  awaiting : ∀ f, s.ci.rx.awaiting = some f → 1 ≤ f.bytes.length ∧ f.bytes.length ≤ 69
  up : s.ci.link = .up → s.ci.linkTimer.isSome ∧ s.ci.downStart = none
  sample : ∀ w, s.ci.sample = some w → s.ci.rx.awaiting = none ∧ w.left ≠ [] ∧ w.kept.length + w.left.length ≤ 8
  silent : s.ci.linkTimer = none → s.ci.rx.awaiting = none ∧ s.ci.sample = none ∧ (s.ci.rx.collecting = none ∨ s.ci.rx.collecting = some [])
  idle : s.ci.port = .free → classGranted s = none → s.ci.lastClass = none
  budget : s.ci.hopBudget ≠ 0

/-! ## TRANSPARENT mode (R12) -/

/-- R12: in TRANSPARENT mode every block but the Chain Interface stands as cold reset leaves it, no SAMPLE is in work, and only transit
frames are sent. -/
def TransparentLaw (s : State) : Prop :=
  s.transparent = true →
    s = { State.cold s.ci.straps with timebase := s.timebase, ci := s.ci, pending := s.pending, turns := s.turns }
      ∧ s.ci.sample = none ∧ (s.ci.port = .free ∨ ∃ bytes, s.ci.port = .busy .transit bytes)

/-- Every law at once: what holds of every state a run from reset reaches. -/
structure Inv (s : State) : Prop where
  notes : NoteLaw s
  override : OverrideLaw s
  points : PointLaw s
  regulators : RegulatorLaw s
  channels : ChannelLaw s
  levels : LevelLaw s
  supervisors : SupervisorLaw s
  requests : RequestLaw s
  sweep : SweepLaw s
  chain : ChainLaw s
  transparent : TransparentLaw s

/-- A safe state: the laws hold and the next command completes into a state where they hold again. -/
def Safe (s : State) : Prop := Inv s ∧ ∃ t, step s = .next t ∧ Inv t

end Sys2Proof.Machine
end

