-- ==== Sys2Proof/Certificates/Slice0/Obligations.lean ====
section
/-! DEFINITION. The statements for the provers. The definitions before the first statement are the words the statements are written in:
what makes a request ready to be taken, and the state and the reply that taking it leaves. -/

namespace Sys2Proof.Claims
open Sys2Proof.Machine

/-! ## Words for requests (chapter 8) -/

/-- The request stands at the head of the FIFO and will be taken: the reply slot and the ready list are empty and no request is in execution
(R146). -/
structure AtHead (q : Request) (rest : List Request) (s : State) : Prop where
  fifo : s.ru.fifo = q :: rest
  slot : s.ru.slot = none
  ready : s.ru.ready = []
  idle : s.ru.execution = none

/-- The request will be taken as a new one: its src is a node address (R147) and no entry of the Recent Request List carries its pair
(R148). -/
structure NewRequest (q : Request) (rest : List Request) (s : State) : Prop extends AtHead q rest s where
  src : 1 ≤ q.src.toNat ∧ q.src.toNat ≤ 126
  unseen : ∀ e ∈ s.ru.recent, e.ref ≠ { src := q.src, seq := q.seq }

/-- A new request that passes the authority check whatever its code: nobody is bound, or it comes from the manager (R151). -/
structure Ready (q : Request) (rest : List Request) (s : State) : Prop extends NewRequest q rest s where
  authority : s.ru.manager = none ∨ s.ru.manager = some q.src

/-- R149: what the Recent Request List keeps when a new entry is made. -/
def roomIn (l : List Entry) : List Entry := if l.length < 4 then l else dropOldestDone l

/-- The state in which a request is executed: it has left the FIFO and there is room for its entry. -/
def taken (rest : List Request) (s : State) : State := { s with ru := { s.ru with fifo := rest, recent := roomIn s.ru.recent } }

/-- The reply to a request (R194): its own code byte, 0 when it has none. -/
def replyTo (q : Request) (status : Status) (data : List Byte) : Reply where
  src := q.src
  seq := q.seq
  code := q.payload.headD 0
  status := status
  data := data

/-- R153: a reply enters the slot when slot and ready list are empty, and otherwise joins the ready list. -/
def placed (r : Reply) (u : RequestUnit) : RequestUnit :=
  if u.slot = none ∧ u.ready = [] then { u with slot := some r } else { u with ready := u.ready ++ [r] }

/-- R152, R153: the request is answered at once: its entry is DONE with the reply cached, and the reply is placed. -/
def answered (q : Request) (status : Status) (data : List Byte) (s : State) : State :=
  { s with ru := placed (replyTo q status data) { s.ru with
    recent := s.ru.recent ++ [{ ref := { src := q.src, seq := q.seq }, status := .done (replyTo q status data) }] } }

/-- R153: the request is refused: answered without data, with one REQ_REFUSED event, and nothing else. -/
def refusedWith (q : Request) (status : Status) (s : State) : State := signal .reqRefused (answered q status [] s)

/-- R155: the PENDING entry is completed: it becomes DONE with this reply cached, in its place, and the reply is placed. -/
def completedEntry (ref : EntryRef) (r : Reply) (s : State) : State :=
  { s with ru := placed r { s.ru with
    recent := s.ru.recent.map (fun e => if e.ref = ref then { e with status := .done r } else e) } }

/-- R143, R144, R153: the pending TAKE_MANUAL of an entry is answered CANCELLED with the regulator index, with one REQ_REFUSED event. -/
def cancelled (ref : EntryRef) (index : Byte) (s : State) : State :=
  signal .reqRefused (completedEntry ref
    { src := ref.src, seq := ref.seq, code := 37, status := .cancelled, data := [index] } s)

/-- R152: the request is deferred: its entry is PENDING and there is no reply. -/
def deferredIn (q : Request) (s : State) : State :=
  { s with ru := { s.ru with recent := s.ru.recent ++ [{ ref := { src := q.src, seq := q.seq }, status := .pending }] } }

/-- The command that takes a request of a code. -/
def commandOf : RequestCode → Instr
  | .identify => .identify | .readStatus => .readStatus | .bind => .bind | .unbind => .unbind | .restart => .restart
  | .clearAll => .clearAll | .setChain => .setChain | .setOverride => .setOverride | .writePoint => .writePoint
  | .readPoint => .readPoint | .deletePoint => .deletePoint | .findPoint => .findPoint | .setWatch => .setWatch
  | .clearWatch => .clearWatch | .writeRegulator => .writeRegulator | .writeCurve => .writeCurve
  | .readRegulator => .readRegulator | .enableRegulator => .enableRegulator | .disableRegulator => .disableRegulator
  | .takeManual => .takeManual | .setManualLevel => .setManualLevel | .releaseManual => .releaseManual
  | .writeActuator => .writeActuator | .readActuator => .readActuator | .resetActuator => .resetActuator
  | .ackNotes => .ackNotes | .sweep => .sweep | .writeCounters => .writeCounters | .readCounters => .readCounters

/-- The command that takes a request: the one its code names, or MALFORMED_REQUEST where it names none (R150). -/
def Takes (i : Instr) (q : Request) : Prop :=
  (∃ c : RequestCode, i = commandOf c ∧ q.payload.head? = some c.byte) ∨
    (i = .malformedRequest ∧ ∀ c : RequestCode, q.payload.head? ≠ some c.byte)

/-- The command takes a request from the FIFO. -/
def TakesRequests (i : Instr) : Prop := (∃ c : RequestCode, i = commandOf c) ∨ i = .malformedRequest

/-- The table of section 11.5: the payload lengths admitted for a request, counting the code byte. -/
def Admitted (c : RequestCode) (n : Nat) : Prop :=
  match c with
  | .identify | .readStatus | .bind | .unbind | .restart | .clearAll => n = 1
  | .setChain | .setOverride => n = 2
  | .writePoint => n = 28
  | .readPoint | .deletePoint => n = 2
  | .findPoint => n = 3
  | .setWatch => n = 6
  | .clearWatch => n = 2
  | .writeRegulator => ∃ k, k ≤ 41 ∧ n = 19 + k
  | .writeCurve => ∃ k, k ≤ 14 ∧ n = 2 + 4 * k
  | .readRegulator => n = 3
  | .enableRegulator | .disableRegulator => n = 2
  | .takeManual | .setManualLevel => n = 4
  | .releaseManual => n = 2
  | .writeActuator => n = 6
  | .readActuator | .resetActuator => n = 2
  | .ackNotes => n = 3
  | .sweep => n = 6
  | .writeCounters => n = 25
  | .readCounters => n = 1

/-- The payload begins with the code byte and has the length. -/
def Carries (q : Request) (code : Byte) (length : Nat) : Prop := q.payload.head? = some code ∧ q.payload.length = length

/-! ## Words for channels (chapter 6) -/

/-- R118: the channel after the send check, which runs in IDLE. -/
def checked (k : Channel) : Channel :=
  if k.state = .idle ∧ k.config.node ≠ 0 ∧ k.desired ≠ none ∧ k.acked ≠ k.desired then
    { k with seq := k.seq + 1, inFlight := k.desired, retries := 0, transmitting := false, state := .sending
             justOpened := false }
  else k

/-- R117: the channel after a desired level is written: the level replaces desired, and in IDLE the send check follows; an exchange so
opened carries the model's mark (log entry 24). -/
def desiring (level : Nat) (k : Channel) : Channel :=
  let after := checked { k with desired := some level }
  if k.state = .idle ∧ after.state = .sending then { after with justOpened := true } else after

/-- R138: the exchange is open. -/
def ExchangeOpen (k : Channel) : Prop := k.state = .sending ∨ k.state = .awaitAck

/-- R139: a desired-level write that comes together with a read of the channel has opened the exchange, and its SET is not yet granted (log
entry 24). -/
def OpenedTogether (k : Channel) : Prop := k.justOpened = true ∧ k.state = .sending ∧ k.transmitting = false

/-- R112: the channel is faulted. -/
def isFaulted (k : Channel) : Bool := k.state = .fault || k.probing

/-! ## Words for regulators (chapters 4, 5 and 7) -/

/-- R80: the regulator stands in OVERRIDE with the ceiling as its output and as its channel's desired level. -/
def driven (r : Fin 32) (s : State) : State :=
  let g := s.reg r
  (s.setReg r { g with state := .override, output := some g.config.ceiling }).setChan g.config.actuator
    (desiring g.config.ceiling (s.chan g.config.actuator))

/-- R70: the period timer is started. -/
def periodStarted (r : Fin 32) (s : State) : State :=
  s.setReg r { s.reg r with periodTimer := some (s.timebase + BitVec.ofNat 32 ((s.reg r).config.period * 100)) }

/-- R89, R102, R144: control begins: in OVERRIDE while the phase is not CLEAR and the regulator participates, else by an evaluation; the
period timer is started. -/
def controlled (r : Fin 32) (s : State) : State :=
  periodStarted r (if s.om.phase ≠ .clear ∧ (s.reg r).config.participate = true then driven r s else evaluate true r s)

/-- R104: the supervisor of a regulator that watches the point is active. -/
def Watches (g : Regulator) (p : Fin 256) : Prop := g.config.inputs ≠ [] ∧ g.config.feedback = some p ∧ g.state ≠ .disabled

/-- R104: an acked level arms. -/
def Arming (acked : Option Nat) : Prop := ∃ l, acked = some l ∧ 0 < l

/-- R175: the alert record with one regulator more or fewer among the stalled, one channel more or fewer among the faulted. -/
def stalledIn (r : Fin 32) (s : State) : State :=
  { s with nu := { s.nu with alert := { s.nu.alert with stalled := insertIndex r s.nu.alert.stalled } } }
def stalledOut (r : Fin 32) (s : State) : State :=
  { s with nu := { s.nu with alert := { s.nu.alert with stalled := removeIndex r s.nu.alert.stalled } } }
def faultedIn (c : Fin 16) (s : State) : State :=
  { s with nu := { s.nu with alert := { s.nu.alert with faulted := insertIndex c s.nu.alert.faulted } } }
def faultedOut (c : Fin 16) (s : State) : State :=
  { s with nu := { s.nu with alert := { s.nu.alert with faulted := removeIndex c s.nu.alert.faulted } } }

/-- R98, R175: the override phase changes and the alert record follows. -/
def phased (om : OverrideMonitor) (s : State) : State :=
  { s with om := om, nu := { s.nu with alert := { s.nu.alert with override := decide (om.phase ≠ .clear) } } }

/-! ## Words for points (chapter 2) -/

/-- R22: the runtime as reset. -/
def freshRuntime : PointRuntime where
  band := .unknown
  filtered := none
  lastRaw := none
  lastConverted := none
  min := none
  max := none
  count := 0
  lastSeen := none
  lastForwarded := none
  sinceForward := 0

/-- R30: the staleness timer as started from now. -/
def staleFrom (now : Time) (maxAge : Option Nat) : Option Time := maxAge.map (fun age => now + BitVec.ofNat 32 (age * 100))

/-- R57: a watch as invalidated. -/
def invalidated (w : Watch) : Watch := { w with valid := false, tripped := false }

/-! ## Words for frames (chapter 1) -/

/-- A frame with these header fields and this payload has ended at a delimiter at time `e` and awaits the checks; the payload fits, and the
Point Engine has no frame in work. -/
structure Arrived (f : Frame) (e : Time) (s : State) : Prop where
  awaiting : s.ci.rx.awaiting = some { bytes := f.bytes, ending := .delimited, endedAt := e }
  begun : s.ci.sample = none
  payload : f.payload.length ≤ 60

/-- An arrived frame at a part in normal mode, from another node. -/
structure ArrivedHere (f : Frame) (e : Time) (s : State) : Prop extends Arrived f e s where
  normal : s.transparent = false
  other : f.src ≠ s.ownAddress

/-- The state once the awaiting frame has been counted (R2). -/
def counted (s : State) : State := signal .framesIn { s with ci := { s.ci with rx := { s.ci.rx with awaiting := none } } }

/-- R5: the part with its link UP and the down-start time absent. -/
def linkedUp (s : State) : State := { s with ci := { s.ci with link := .up, downStart := none } }

/-- R2, R5: the state in which a valid frame that ended at `e` is stripped or classified: counted, and a DOWN link raised, with a LINK note
of the outage when the down-start time is present and the part is not TRANSPARENT. -/
def received (e : Time) (s : State) : State :=
  match s.ci.link, s.ci.downStart with
  | .up, _ => counted s
  | .down, none => linkedUp (counted s)
  | .down, some d =>
    if s.transparent then linkedUp (counted s)
    else raise .link none (if (e - d).toNat ≤ 65535 then (e - d).toNat else 65535) .warn (linkedUp (counted s))

/-- R10, R11: a frame to be forwarded is hop-expired, joins the transit queue one hop poorer, or is dropped at a full one. -/
def passedOn (f : Frame) (s : State) : State :=
  if f.hops.toNat ≤ 1 then signal .hopExpired s
  else if s.ci.transit.length < 8 then
    { s with ci := { s.ci with transit := s.ci.transit ++ [{ f with hops := f.hops - 1 }] } }
  else signal .transitDrop s

/-- R8, R62, R63: a SAMPLE comes back from the Point Engine with the readings that stay: dropped when none does, consumed when its dest is the
own address, else forwarded. -/
def returned (f : Frame) (kept : List Reading) (s : State) : State :=
  if kept = [] ∨ f.dest = s.ownAddress then s else passedOn { f with payload := kept.flatMap Reading.bytes } s

/-- R38: the sender's next choice does not divide a SAMPLE (log entries 22 and 23). -/
def Undivided (s : State) : Prop := ∀ n, s.turns.head? ≠ some (.readings n)

/-- R13: the frame in which the part originates a payload: src the own address, hops the hop budget. -/
def originated (dest type seq : Byte) (payload : List Byte) (s : State) : Frame where
  dest := dest
  src := s.ownAddress
  type := type
  hops := s.ci.hopBudget
  seq := seq
  payload := payload

/-! ## Words for payloads (chapter 11) -/

/-- An unsigned field of two bytes, a value (two bytes, two's complement) and a field of four bytes, each high byte first. -/
def field16 (n : Nat) : List Byte := [BitVec.ofNat 8 (n / 256), BitVec.ofNat 8 n]
def fieldValue (v : Int) : List Byte := [BitVec.ofInt 8 (v / 256), BitVec.ofInt 8 v]
def field32 (t : BitVec 32) : List Byte :=
  [BitVec.ofNat 8 (t.toNat / 16777216), BitVec.ofNat 8 (t.toNat / 65536), BitVec.ofNat 8 (t.toNat / 256), BitVec.ofNat 8 t.toNat]

/-- A byte from a number; a flag byte; one bit of a byte of bits. -/
def field8 (n : Nat) : Byte := BitVec.ofNat 8 n
def fieldFlag (b : Bool) : Byte := if b then 1 else 0
def bitOf (k : Nat) (b : Bool) : Nat := if b then 2 ^ k else 0

/-- Section 11.6: the 26 bytes of a point configuration, with the codes of section 11.2 and the presence bits of section 11.3. -/
def pointLayout (c : PointConfig) : List Byte :=
  [c.key.node, field8 c.key.channel.val, match c.kind with | .temperature => 0 | .speed => 1 | .current => 2 | .generic => 3]
    ++ fieldValue c.gain ++ fieldValue c.offset
    ++ [field8 c.shift.val, field8 (bitOf 0 c.thresholds.lowCrit.isSome + bitOf 1 c.thresholds.lowWarn.isSome
        + bitOf 2 c.thresholds.highWarn.isSome + bitOf 3 c.thresholds.highCrit.isSome + bitOf 4 c.maxAge.isSome)]
    ++ fieldValue (c.thresholds.lowCrit.getD 0) ++ fieldValue (c.thresholds.lowWarn.getD 0)
    ++ fieldValue (c.thresholds.highWarn.getD 0) ++ fieldValue (c.thresholds.highCrit.getD 0)
    ++ [field8 c.hyst] ++ field16 (c.maxAge.getD 0)
    ++ [fieldFlag c.escalate, fieldFlag c.bandNotes, match c.forward with | .pass => 0 | .suppress => 1 | .onChange => 2]
    ++ field16 c.deadband ++ [field8 c.refresh]

/-- Section 11.6: the 17 bytes of a regulator configuration, and the input list behind them. -/
def regulatorLayout (c : RegulatorConfig) : List Byte :=
  [match c.combine with | .max => 0 | .mean => 1, fieldFlag c.offAllowed, field8 c.offHyst]
    ++ field16 c.ceiling ++ field16 c.failsafe ++ field16 c.slew ++ [field8 c.period, field8 c.actuator.val,
        fieldFlag c.feedback.isSome, match c.feedback with | none => 0 | some i => field8 i.val]
    ++ fieldValue c.stallFloor ++ [field8 c.stallWindow, fieldFlag c.participate] ++ c.inputs.map (fun i => field8 i.val)

/-- Section 11.5: a counter entry; the selector codes are those of section 11.2 (`EventClass.code`), 0 for OFF. -/
def counterLayout (k : Counter) : List Byte :=
  [match k.selector with | none => 0 | some c => field8 c.code, field8 (bitOf 0 k.noteOnOverflow + bitOf 1 k.freezeOnOverflow)]
    ++ field32 k.value

/-- Section 11.7, R39: the data of a READ_POINT reply. -/
def pointReply (i : Fin 256) (p : Point) (now : Time) : List Byte :=
  let x := p.runtime
  [field8 i.val] ++ pointLayout p.config
    ++ [match x.band with
          | .unknown => 0 | .normal => 1 | .warnHigh => 2 | .critHigh => 3 | .warnLow => 4 | .critLow => 5 | .stale => 6,
        field8 (bitOf 0 x.filtered.isSome + bitOf 1 x.lastRaw.isSome + bitOf 2 x.lastConverted.isSome + bitOf 3 x.min.isSome
          + bitOf 4 x.max.isSome + bitOf 5 x.lastSeen.isSome + bitOf 6 x.lastForwarded.isSome + bitOf 7 p.watch.isSome)]
    ++ fieldValue (x.filtered.getD 0) ++ fieldValue (x.lastRaw.getD 0) ++ fieldValue (x.lastConverted.getD 0)
    ++ fieldValue (x.min.getD 0) ++ fieldValue (x.max.getD 0) ++ field16 x.count ++ field32 (x.lastSeen.getD 0)
    ++ fieldValue (x.lastForwarded.getD 0) ++ [field8 x.sinceForward]
    ++ (match p.watch with
        | none => [0, 0, 0, 0, 0, 0]
        | some w => fieldValue w.threshold
            ++ [match w.direction with | .above => 0 | .below => 1, fieldFlag w.note, fieldFlag w.valid, fieldFlag w.tripped])
    ++ field32 now

/-- Section 11.7, R87: the data of a READ_REGULATOR reply, part 0 and part 1. -/
def regulatorReply0 (r : Fin 32) (s : State) : List Byte :=
  let g := s.reg r
  [field8 r.val, 0, match g.state with
      | .disabled => 0 | .auto => 1 | .failsafe => 2 | .override => 3 | .handover => 4 | .manual => 5,
    field8 (bitOf 0 g.output.isSome + bitOf 1 g.manualLevel.isSome + bitOf 2 g.periodTimer.isSome),
    field8 (bitOf 0 g.offLatched + bitOf 1 g.handover.isSome + bitOf 2 (s.sup r).stalled + bitOf 3 (s.sup r).window.isSome)]
    ++ field16 (g.output.getD 0) ++ field16 (g.manualLevel.getD 0) ++ field32 (g.periodTimer.getD 0) ++ field32 s.timebase
    ++ regulatorLayout g.config
def regulatorReply1 (r : Fin 32) (s : State) : List Byte :=
  [field8 r.val, 1] ++ field32 s.timebase ++ (s.reg r).curve.flatMap (fun b => fieldValue b.input ++ field16 b.level)

/-- Section 11.7, R131: the data of a READ_ACTUATOR reply, with the configured regulator that names the channel. -/
def actuatorReply (c : Fin 16) (s : State) : List Byte :=
  let k := s.chan c
  let namer := (List.finRange 32).find? (fun r => decide ((s.reg r).config.inputs ≠ [] ∧ (s.reg r).config.actuator = c))
  [field8 c.val, k.config.node, field8 k.config.nodeChannel.val, field8 k.config.ackTimeout, field8 k.config.retryLimit,
    match k.state with | .idle => 0 | .sending => 1 | .awaitAck => 2 | .fault => 3,
    k.seq,
    field8 (bitOf 0 k.inFlight.isSome + bitOf 1 k.desired.isSome + bitOf 2 k.acked.isSome + bitOf 3 k.ackTimer.isSome
      + bitOf 4 k.probeTimer.isSome + bitOf 5 namer.isSome),
    field8 (bitOf 0 k.probing + bitOf 1 k.transmitting)]
    ++ field16 (k.inFlight.getD 0) ++ field16 (k.desired.getD 0) ++ field16 (k.acked.getD 0) ++ [field8 k.retries]
    ++ field32 (k.ackTimer.getD 0) ++ field32 (k.probeTimer.getD 0)
    ++ [match namer with | none => 0 | some r => field8 r.val] ++ field32 s.timebase

/-- Section 11.7, R190: the data of a READ_COUNTERS reply. -/
def countersReply (s : State) : List Byte :=
  counterLayout s.counters.counter[0] ++ counterLayout s.counters.counter[1] ++ counterLayout s.counters.counter[2]
    ++ counterLayout s.counters.counter[3] ++ [fieldFlag s.counters.frozen] ++ field32 s.timebase

/-- R176: the level of ALERT_N, asserted or released. -/
def alertLine (s : State) : Bool :=
  decide (s.transparent = false ∧ (s.nu.alert.override = true ∨ s.nu.alert.faulted ≠ [] ∨ s.nu.alert.stalled ≠ []))

/-- R159: the six groups of READ_STATUS as the blocks stand. The critical set is held ascending (log entry 17). -/
def overrideGroup (s : State) : OverrideStatus where
  phase := s.om.phase
  holdTime := s.om.holdTime
  count := s.om.critical.length
  members := s.om.critical.take 8
def sweepGroup (s : State) : Option SweepStatus :=
  match s.sweep with
  | none => none
  | some d => some { first := d.first, last := d.last, next := d.next }
def requestGroup (s : State) : RequestStatus where
  manager := s.ru.manager
  pending := s.ru.recent.countP (fun e => e.status = .pending)
  waiting := s.ru.fifo.length
def chainGroup (s : State) : ChainStatus where
  link := s.ci.link
  hopBudget := s.ci.hopBudget
def noteGroup (s : State) : NoteStatus where
  depth := s.nu.inFlight.length + s.nu.unsent.length
  inFlight := s.nu.inFlight.length
  alert := alertLine s

/-- Section 11.7, R194: the data of a READ_STATUS reply from its groups and the Timebase at which the request was taken. -/
def statusLayout (now : Time) (o : OverrideStatus) (w : Option SweepStatus) (u : RequestStatus) (c : ChainStatus) (frozen : Bool)
    (n : NoteStatus) : List Byte :=
  [match o.phase with | .clear => 0 | .active => 1 | .holding => 2, field8 o.holdTime] ++ field16 o.count
    ++ (List.range 8).map (fun k => match o.members[k]? with | none => 0 | some p => field8 p.val)
    ++ [field8 (bitOf 0 w.isSome + bitOf 1 u.manager.isSome + bitOf 2 frozen + bitOf 3 n.alert)]
    ++ (match w with
        | none => [0, 0, 0, 0]
        | some d => [field8 d.first, field8 d.last] ++ field16 d.next)
    ++ [match u.manager with | none => 0 | some m => m, field8 u.pending, field8 u.waiting,
        match c.link with | .down => 0 | .up => 1,
        c.hopBudget, field8 n.depth, field8 n.inFlight]
    ++ field32 now

/-- R159: the data of a READ_STATUS reply whose groups are all read at one moment. -/
def statusReply (s : State) : List Byte :=
  statusLayout s.timebase (overrideGroup s) (sweepGroup s) (requestGroup s) (chainGroup s) s.counters.frozen (noteGroup s)

/-- R159: a READ_STATUS with no group read, taken at this Timebase. -/
def nothingRead (now : Time) : StatusRead where
  taken := now
  override := none
  sweep := none
  requests := none
  chain := none
  frozen := none
  notes := none

/-- R159: the groups named are read from the blocks as they stand; a group that was read before stays as it was read. -/
def readNow (gs : List StatusGroup) (s : State) (r : StatusRead) : StatusRead where
  taken := r.taken
  override := if r.override = none ∧ .overrideMonitor ∈ gs then some (overrideGroup s) else r.override
  sweep := if r.sweep = none ∧ .sweepUnit ∈ gs then some (sweepGroup s) else r.sweep
  requests := if r.requests = none ∧ .requestUnit ∈ gs then some (requestGroup s) else r.requests
  chain := if r.chain = none ∧ .chainInterface ∈ gs then some (chainGroup s) else r.chain
  frozen := if r.frozen = none ∧ .trafficCounters ∈ gs then some s.counters.frozen else r.frozen
  notes := if r.notes = none ∧ .noteUnit ∈ gs then some (noteGroup s) else r.notes

/-- R159: every group, as a READ_STATUS reads them that is not divided. -/
def allGroups : List StatusGroup := [.overrideMonitor, .sweepUnit, .requestUnit, .chainInterface, .trafficCounters, .noteUnit]

/-- R159: what a READ_STATUS leaves that has read so far: its reply with every group as it was read, or, while a group is left to read, the
request in execution, with no entry and no reply yet. -/
def statusRead (q : Request) (r : StatusRead) (s : State) : State :=
  match r.override, r.sweep, r.requests, r.chain, r.frozen, r.notes with
  | some o, some w, some u, some c, some f, some n =>
    answered q .ok (statusLayout r.taken o w u c f n) { s with ru := { s.ru with execution := none } }
  | _, _, _, _, _, _ => { s with ru := { s.ru with execution := some { request := q, read := r } } }

/-- R159: the sender's next choice does not divide a READ_STATUS (log entries 10 and 22). -/
def ReadWhole (s : State) : Prop := ∀ gs, s.turns.head? ≠ some (.groups gs)

/-! ## Words for frames of reference -/

/-- Nothing differs between two states but in the Note Unit, the counters, the points, the regulators, the Override Monitor, the supervisors
and the channels. -/
structure SameAround (s t : State) : Prop where
  timebase : t.timebase = s.timebase
  ci : t.ci = s.ci
  ru : t.ru = s.ru
  sweep : t.sweep = s.sweep
  pending : t.pending = s.pending
  turns : t.turns = s.turns

end Sys2Proof.Claims

section

open Sys2Proof Sys2Proof.Machine Sys2Proof.Claims

/-! ## The machine as a whole -/

/-- Section 2.5 (each event is taken whole, one after another): a step takes the command at the front of the queue and runs its meaning on
the state with the rest of the queue. On an empty queue the part idles (the model's choice, log entry 13). -/
def Obligations.StepTakesTheFrontCommand : Prop :=
  (∀ (c : Instr) (rest : List Instr) (s : State), s.pending = c :: rest → step s = exec c (s.withPending rest)) ∧
  (∀ s : State, s.pending = [] → step s = .next s)

/-- No rule stops the part, and no command reads or writes the queue of commands: every command answers a next state with the queue as
it was. The queue is the model's own (log entry 13). -/
def Obligations.EveryCommandCompletesAndKeepsTheQueue : Prop :=
  ∀ (c : Instr) (s : State), ∃ t, exec c s = .next t ∧ t.pending = s.pending

/-- R1, R20, R42, R91, R110, R133, R161, R177, R186, R191: what COLD_RESET leaves, whatever the state before and whatever the straps.
The queue of commands and the choices of order are the model's own and stay (log entries 13 and 22). -/
def Obligations.ColdResetValues : Prop :=
  ∀ (a : BitVec 7) (s : State), ∃ t, exec (.coldReset a) s = .next t ∧
    t.timebase = 0 ∧
    t.ci = { straps := a, link := .down, downStart := none, linkTimer := some 20, rx := { collecting := none, awaiting := none },
             sample := none, transit := [], hopBudget := 32, port := .free, lastClass := none, roundRobin := 15 } ∧
    (∀ i, t.point i = none) ∧
    (∀ r, t.reg r =
      { config := { inputs := [], combine := .max, offAllowed := false, offHyst := 0, ceiling := 1000, failsafe := 1000, slew := 1000,
                    period := 10, actuator := 0, feedback := none, stallFloor := 0, stallWindow := 30, participate := true },
        curve := [], state := .disabled, output := none, offLatched := false, manualLevel := none, handover := none,
        periodTimer := none }) ∧
    t.om = { critical := [], phase := .clear, holdTimer := none, holdTime := 10, startTime := none } ∧
    (∀ r, t.sup r = { stalled := false, window := none }) ∧
    (∀ c, t.chan c =
      { config := { node := 0, nodeChannel := 0, ackTimeout := 10, retryLimit := 3 }, state := .idle, seq := 0, inFlight := none,
        transmitting := false, desired := none, acked := none, retries := 0, probing := false, ackTimer := none,
        probeTimer := none, justOpened := false }) ∧
    t.ru = { fifo := [], slot := none, ready := [], recent := [], execution := none, manager := none } ∧
    t.nu = { inFlight := [], unsent := [], nextSequence := 0, lost := 0, resendTimer := none, due := [],
             alert := { override := false, faulted := [], stalled := [] } } ∧
    t.sweep = none ∧
    (∀ k : Fin 4, t.counters.counter[k] = { selector := none, noteOnOverflow := false, freezeOnOverflow := false, value := 0 }) ∧
    t.counters.frozen = false ∧
    t.pending = s.pending ∧ t.turns = s.turns

/-- Every law of Safety.lean holds after a cold reset with any straps; `State.reset` is the cold reset that samples 20 (the model's choice,
log entry 1). -/
def Obligations.EveryLawHoldsAtReset : Prop :=
  (∀ a : BitVec 7, Inv (State.cold a)) ∧ State.reset = State.cold 20#7 ∧ Inv State.reset

/-- R164, R170: every step keeps the law of the Note Queue: at most 32 notes, at most 4 in flight, unsent notes pairwise unlike, none in
flight while no manager is bound, consecutive sequences, the due set within the notes in flight. -/
def Obligations.NoteLawIsKept : Prop :=
  ∀ s t : State, NoteLaw s → step s = .next t → NoteLaw t

/-- R94, R98: every step keeps the law of the critical set, of the phase and of the regulators in OVERRIDE, with the override part of the
alert record. The set is held ascending (the model's choice, log entry 17). -/
def Obligations.OverrideLawIsKept : Prop :=
  ∀ s t : State, OverrideLaw s → step s = .next t → OverrideLaw t

/-- R23, R30, R33, R60 and section 2.1: every step keeps the law of the Point Table. -/
def Obligations.PointLawIsKept : Prop :=
  ∀ s t : State, PointLaw s → step s = .next t → PointLaw t

/-- R67, R68, R70, R135 and sections 4.1 and 4.2: every step keeps the law of the Regulator Table. -/
def Obligations.RegulatorLawIsKept : Prop :=
  ∀ s t : State, RegulatorLaw s → step s = .next t → RegulatorLaw t

/-- R113, R175 and section 6.1: every step keeps the law of the Actuator Channel Table. -/
def Obligations.ChannelLawIsKept : Prop :=
  ∀ s t : State, ChannelLaw s → step s = .next t → ChannelLaw t

/-- Section 2.1 of the conventions: while the law of the Regulator Table holds, every step keeps the levels of the channels within 0 to 1000. -/
def Obligations.LevelLawIsKept : Prop :=
  ∀ s t : State, RegulatorLaw s → LevelLaw s → step s = .next t → LevelLaw t

/-- R104, R105, R107: while the law of the Regulator Table holds, every step keeps the law of the stall supervisors. -/
def Obligations.SupervisorLawIsKept : Prop :=
  ∀ s t : State, RegulatorLaw s → SupervisorLaw s → step s = .next t → SupervisorLaw t

/-- R146, R149, R153: while the law of the Regulator Table holds, every step keeps the law of the Request Unit; each PENDING entry belongs
to exactly one regulator in HANDOVER or to the sweep in progress, and a request in execution is a READ_STATUS with groups left to read
(what it is between its reads is the model's choice, log entries 10 and 20). -/
def Obligations.RequestLawIsKept : Prop :=
  ∀ s t : State, RegulatorLaw s → RequestLaw s → step s = .next t → RequestLaw t

/-- R180: every step keeps the law of the sweep in progress. -/
def Obligations.SweepLawIsKept : Prop :=
  ∀ s t : State, SweepLaw s → step s = .next t → SweepLaw t

/-- R2, R4, R5, R11, R14, R16: every step keeps the law of the Chain Interface. Three clauses of it are the model's choice: that a FREE port
without candidates has no last class whatever took the last candidate away (log entry 5), that a frame awaits the checks and a SAMPLE is in
work only while the link-down timer runs (log entry 4), and what a SAMPLE in work is (log entry 23). -/
def Obligations.ChainLawIsKept : Prop :=
  ∀ s t : State, ChainLaw s → step s = .next t → ChainLaw t

/-- R12: every step keeps a part in TRANSPARENT mode at its cold reset state, but for the Timebase and the Chain Interface. -/
def Obligations.TransparentLawIsKept : Prop :=
  ∀ s t : State, TransparentLaw s → step s = .next t → TransparentLaw t

/-- The commands that alone change what they own: the Timebase (section 2.6), the straps (R1), the binding (R151), the hold time (R103), the
hop budget (R14), and the configurations of points, regulators, channels and counters (section 2.1, R66, R86, section 6.1, R189). -/
def Obligations.EachSettingHasItsOwnCommands : Prop :=
  ∀ (c : Instr) (s t : State), exec c s = .next t → (∀ a, c ≠ .coldReset a) →
    t.ci.straps = s.ci.straps ∧
    (c ≠ .timebaseAdvance → t.timebase = s.timebase) ∧
    (c ≠ .bind → c ≠ .unbind → t.ru.manager = s.ru.manager) ∧
    (c ≠ .setOverride → t.om.holdTime = s.om.holdTime) ∧
    (c ≠ .setChain → t.ci.hopBudget = s.ci.hopBudget) ∧
    (c ≠ .writePoint → c ≠ .deletePoint → c ≠ .clearAll →
      ∀ i, (t.point i).map (·.config) = (s.point i).map (·.config)) ∧
    (c ≠ .writeRegulator → c ≠ .clearAll → ∀ r, (t.reg r).config = (s.reg r).config) ∧
    (c ≠ .writeCurve → c ≠ .clearAll → ∀ r, (t.reg r).curve = (s.reg r).curve) ∧
    (c ≠ .writeActuator → c ≠ .clearAll → ∀ k, (t.chan k).config = (s.chan k).config) ∧
    (c ≠ .writeCounters → c ≠ .clearAll → ∀ k : Fin 4,
      t.counters.counter[k].selector = s.counters.counter[k].selector ∧
      t.counters.counter[k].noteOnOverflow = s.counters.counter[k].noteOnOverflow ∧
      t.counters.counter[k].freezeOnOverflow = s.counters.counter[k].freezeOnOverflow)

/-- Section 2.6 of the conventions: the Timebase advances by one, wraps from 4294967295 to 0, and nothing else changes but the model's own
marks on the channels (log entry 24). R195: a timer started at any Timebase for at most 60 000 ms is due from its expiry time on, by the
difference modulo 2^32, whether or not the Timebase wraps in between; up to 2^31 ms after the start the model holds an expiry due late
as well (the model's choice, log entry 3). A stopped timer is never due. -/
def Obligations.TimebaseAdvances : Prop :=
  (∀ s : State,
    exec .timebaseAdvance s =
      .next { s with timebase := s.timebase + 1, chans := s.chans.map (fun k => { k with justOpened := false }) } ∧
    (s.timebase + 1).toNat = if s.timebase.toNat = 4294967295 then 0 else s.timebase.toNat + 1) ∧
  (∀ (start : Time) (ms elapsed : Nat), ms ≤ 60000 → elapsed < 2147483648 →
    (timerDue (start + BitVec.ofNat 32 elapsed) (some (start + BitVec.ofNat 32 ms)) = true ↔ ms ≤ elapsed)) ∧
  (∀ (now e : Time), timerDue now (some e) = true ↔ (now - e).toNat < 2147483648) ∧
  (∀ now : Time, timerDue now none = false)

/-! ## Chain Interface (chapter 1) -/

/-- R2, R4: one symbol on CIN starts the link-down timer again (20 ms). An idle symbol does nothing else; a delimiter ends a frame that has
bytes and starts the next; a data byte is collected, ignored, or ends the frame as over-length when it is the 69th. Frames are checked
in the order they end: a frame that still awaits the checks, or a SAMPLE in work, is completed before the next one ends (log entry 4), as
a FRAME_END completes it that no choice of order divides. -/
def Obligations.SymbolIsReceived : Prop :=
  ∀ s : State,
    let timed := { s with ci := { s.ci with linkTimer := some (s.timebase + 20) } }
    let done := frameEnd false timed
    exec (.symbolReceived .idle) s = .next timed ∧
    (Undivided s → exec .frameEnd timed = .next done) ∧
    (s.ci.rx.collecting = none ∨ s.ci.rx.collecting = some [] →
      exec (.symbolReceived .delimiter) s =
        .next { timed with ci := { timed.ci with rx := { timed.ci.rx with collecting := some [] } } }) ∧
    (∀ b bs, s.ci.rx.collecting = some (b :: bs) →
      exec (.symbolReceived .delimiter) s =
        .next { done with ci := { done.ci with
          rx := { collecting := some [], awaiting := some { bytes := b :: bs, ending := .delimited, endedAt := s.timebase } } } }) ∧
    (∀ b, s.ci.rx.collecting = none → exec (.symbolReceived (.data b)) s = .next timed) ∧
    (∀ b bs, s.ci.rx.collecting = some bs → bs.length < 68 →
      exec (.symbolReceived (.data b)) s =
        .next { timed with ci := { timed.ci with rx := { timed.ci.rx with collecting := some (bs ++ [b]) } } }) ∧
    (∀ b bs, s.ci.rx.collecting = some bs → 68 ≤ bs.length →
      exec (.symbolReceived (.data b)) s =
        .next { done with ci := { done.ci with
          rx := { collecting := none, awaiting := some { bytes := bs ++ [b], ending := .overLength, endedAt := s.timebase } } } })

/-- R3 and section 11.1: a frame formed by the part passes the ingress check and is read back as it was, for every header and every
payload of at most 60 bytes. -/
def Obligations.FormedFramesPassAndReadBack : Prop :=
  ∀ f : Frame, f.payload.length ≤ 60 → bytesPass f.bytes = true ∧ frameOfBytes f.bytes = f

/-- R2, R3: a frame that ended over-length, or fails a condition of the ingress check, is counted by FRAMES_IN and then CRC_ERROR and is
gone. -/
def Obligations.FailingFrameIsDiscarded : Prop :=
  ∀ (f : EndedFrame) (s : State), s.ci.rx.awaiting = some f → s.ci.sample = none →
    (f.ending = .overLength ∨ f.bytes.length < 8 ∨ 60 < (byteAt f.bytes 5).toNat ∨ f.bytes.length ≠ 8 + (byteAt f.bytes 5).toNat ∨
      crc (f.bytes.take (f.bytes.length - 2)) ≠ halfAt f.bytes (f.bytes.length - 2)) →
    exec .frameEnd s = .next (signal .crcError (counted s))

/-- R7, R10, R11: a frame from another node that the part does not act on (foreign, a SET, or not addressed to the part and no SAMPLE) is
hop-expired, joins the transit queue one hop poorer, or is dropped at a full one; nothing else changes but the count of the frame and a
link it raises (`received`). Here and below `settleIdlePort` keeps R16's law that a FREE port without candidates has no last class
(log entry 5). -/
def Obligations.FrameIsForwarded : Prop :=
  ∀ (f : Frame) (e : Time) (s : State), ArrivedHere f e s →
    f.type ≠ 1 → (f.dest ≠ s.ownAddress ∨ (f.type ≠ 3 ∧ f.type ≠ 4 ∧ f.type ≠ 5 ∧ f.type ≠ 6)) →
    (f.hops.toNat ≤ 1 → exec .frameEnd s = .next (settleIdlePort (signal .hopExpired (received e s)))) ∧
    (2 ≤ f.hops.toNat → s.ci.transit.length < 8 →
      exec .frameEnd s =
        .next (settleIdlePort { received e s with ci := { (received e s).ci with
          transit := s.ci.transit ++ [{ f with hops := f.hops - 1 }] } })) ∧
    (2 ≤ f.hops.toNat → 8 ≤ s.ci.transit.length →
      exec .frameEnd s = .next (settleIdlePort (signal .transitDrop (received e s))))

/-- R12: in TRANSPARENT mode every valid frame, whatever its type and addresses, is forwarded by the same rule. -/
def Obligations.TransparentPartForwardsEveryFrame : Prop :=
  ∀ (f : Frame) (e : Time) (s : State), Arrived f e s → s.transparent = true →
    (f.hops.toNat ≤ 1 → exec .frameEnd s = .next (settleIdlePort (signal .hopExpired (received e s)))) ∧
    (2 ≤ f.hops.toNat → s.ci.transit.length < 8 →
      exec .frameEnd s =
        .next (settleIdlePort { received e s with ci := { (received e s).ci with
          transit := s.ci.transit ++ [{ f with hops := f.hops - 1 }] } })) ∧
    (2 ≤ f.hops.toNat → 8 ≤ s.ci.transit.length →
      exec .frameEnd s = .next (settleIdlePort (signal .transitDrop (received e s))))

/-- R6, R7, R9: the part's own frame is stripped and an RSP or NOTE addressed to it is ignored, each with nothing but its FRAMES_IN and a
link it raises; a REQ addressed to it joins the FIFO with src, seq and payload, or gives REQ_DROPPED at a full one. -/
def Obligations.FrameIsConsumed : Prop :=
  (∀ (f : Frame) (e : Time) (s : State), Arrived f e s → s.transparent = false → f.src = s.ownAddress →
    exec .frameEnd s = .next (settleIdlePort (received e s))) ∧
  (∀ (f : Frame) (e : Time) (s : State), ArrivedHere f e s → f.dest = s.ownAddress →
    (f.type = 5 ∨ f.type = 6 → exec .frameEnd s = .next (settleIdlePort (received e s))) ∧
    (f.type = 4 → s.ru.fifo.length < 4 →
      exec .frameEnd s =
        .next (settleIdlePort { received e s with ru := { s.ru with
          fifo := s.ru.fifo ++ [{ src := f.src, seq := f.seq, payload := f.payload }] } })) ∧
    (f.type = 4 → 4 ≤ s.ru.fifo.length →
      exec .frameEnd s = .next (settleIdlePort (signal .reqDropped (received e s)))))

/-- R5: a valid frame, whatever becomes of it, leaves an UP link as it is and raises a DOWN one, before it is stripped, forwarded or
classified (`takeValid`). With a down-start time it raises a LINK note, WARN, whose value is the outage modulo 2^32, at most 65535, and the
down-start time becomes absent; in TRANSPARENT mode, and without a down-start time, it raises none. An own frame is then stripped. -/
def Obligations.ValidFrameRaisesTheLink : Prop :=
  ∀ (f : Frame) (e : Time) (s : State), Arrived f e s →
    let up := { counted s with ci := { (counted s).ci with link := .up, downStart := none } }
    (s.ci.link = .up → exec .frameEnd s = .next (settleIdlePort (takeValid true f (counted s)))) ∧
    (s.ci.link = .down → s.transparent = true ∨ s.ci.downStart = none →
      exec .frameEnd s = .next (settleIdlePort (takeValid true f up))) ∧
    (∀ d, s.ci.link = .down → s.transparent = false → s.ci.downStart = some d →
      exec .frameEnd s =
        .next (settleIdlePort (takeValid true f
          (raise .link none (if (e - d).toNat ≤ 65535 then (e - d).toNat else 65535) .warn up)))) ∧
    (s.transparent = false → f.src = s.ownAddress → ∀ u : State, u.ci.straps = s.ci.straps → takeValid true f u = u)

/-- R2, R4: the link-down timer expires. With no byte in reception an UP link goes DOWN, 20 ms before the expiry time, and a DOWN link
stays; a frame in reception is first ended as truncated, with FRAMES_IN and CRC_ERROR; a frame that still awaits the checks, or a SAMPLE
in work, is completed before (log entry 4), as a FRAME_END completes it that no choice of order divides. -/
def Obligations.SilentLineTakesTheLinkDown : Prop :=
  ∀ (s : State) (e : Time), s.ci.linkTimer = some e → timerDue s.timebase (some e) = true →
    (s.ci.rx.awaiting = none ∨ s.ci.sample = none →
      exec .linkDownTimerExpiry s = exec .linkDownTimerExpiry (frameEnd false s) ∧
        (Undivided s → exec .frameEnd s = .next (frameEnd false s))) ∧
    (s.ci.rx.awaiting = none → s.ci.sample = none →
      let cut := signal .crcError (signal .framesIn { s with ci := { s.ci with rx := { collecting := none, awaiting := none } } })
      (s.ci.rx.collecting = none ∨ s.ci.rx.collecting = some [] → s.ci.link = .up →
        exec .linkDownTimerExpiry s =
          .next { s with ci := { s.ci with linkTimer := none, link := .down, downStart := some (e - 20) } }) ∧
      (s.ci.rx.collecting = none ∨ s.ci.rx.collecting = some [] → s.ci.link = .down →
        exec .linkDownTimerExpiry s = .next { s with ci := { s.ci with linkTimer := none } }) ∧
      (∀ b bs, s.ci.rx.collecting = some (b :: bs) → s.ci.link = .up →
        exec .linkDownTimerExpiry s =
          .next { cut with ci := { cut.ci with linkTimer := none, link := .down, downStart := some (e - 20) } }) ∧
      (∀ b bs, s.ci.rx.collecting = some (b :: bs) → s.ci.link = .down →
        exec .linkDownTimerExpiry s = .next { cut with ci := { cut.ci with linkTimer := none } }))

/-- R18: the channel whose SET is granted is the first that waits, counting upward from the one after the round-robin pointer and wrapping
from 15 to 0; there is one exactly when some channel waits. -/
def Obligations.RoundRobinFindsTheNextWaitingChannel : Prop :=
  (∀ (s : State) (k : Fin 16), (s.chan (s.ci.roundRobin + 1 + k)).waiting = true →
    (∀ j : Fin 16, j < k → (s.chan (s.ci.roundRobin + 1 + j)).waiting = false) → nextChannel s = some (s.ci.roundRobin + 1 + k)) ∧
  (∀ s : State, nextChannel s = none ↔ ∀ c, (s.chan c).waiting = false)

/-- R11, R13, R15 to R18, R119, R154, R168: what one grant does with the port FREE. Transit is granted when nothing of the part's own waits
or the last class is not TRANSIT; otherwise a waiting reply, else the SET of the channel R18 gives, else the note R167 gives. The
frame is formed at the grant, the port is BUSY with it, the last class is its class, and nothing else changes but at its producer. That
the due note R167 gives is the first of the due set as the model orders it is the model's choice (log entry 9). -/
def Obligations.GrantTakesOneFrame : Prop :=
  ∀ s : State, s.ci.port = .free →
    (∀ f rest, s.ci.transit = f :: rest → originatedWaiting s = false ∨ s.ci.lastClass ≠ some .transit →
      exec .egressGrant s =
        .next { s with ci := { s.ci with transit := rest, port := .busy .transit f.bytes, lastClass := some .transit } }) ∧
    (s.transparent = false → s.ci.transit = [] ∨ s.ci.lastClass = some .transit →
      (∀ r, s.ru.slot = some r →
        exec .egressGrant s =
          .next { s with
            ru := { s.ru with slot := s.ru.ready.head?, ready := s.ru.ready.tail }
            ci := { s.ci with
              port := .busy .reply (originated r.src 5 r.seq r.payload s).bytes
              lastClass := some .originated } }) ∧
      (∀ c level, s.ru.slot = none → nextChannel s = some c → (s.chan c).inFlight = some level →
        exec .egressGrant s =
          .next ({ s with ci := { s.ci with
              port := .busy (.channel c) (originated (s.chan c).config.node 2 (s.chan c).seq
                (BitVec.ofNat 8 (s.chan c).config.nodeChannel.val :: natBytes level) s).bytes
              lastClass := some .originated
              roundRobin := c } }.setChan c { s.chan c with transmitting := true })) ∧
      (∀ m n rest, s.ru.slot = none → (∀ c, (s.chan c).waiting = false) → s.ru.manager = some m → s.nu.due = [] →
        s.nu.inFlight.length < 4 → s.nu.unsent = n :: rest →
        let sent : SentNote := { note := n, sequence := s.nu.nextSequence, lost := s.nu.lost }
        exec .egressGrant s =
          .next { s with
            nu := { s.nu with
              inFlight := s.nu.inFlight ++ [sent], unsent := rest, nextSequence := s.nu.nextSequence + 1, lost := 0 }
            ci := { s.ci with
              port := .busy .note (originated m 6 (sent.sequence.setWidth 8) sent.payload s).bytes
              lastClass := some .originated } }) ∧
      (∀ m n q, s.ru.slot = none → (∀ c, (s.chan c).waiting = false) → s.ru.manager = some m → s.nu.due.head? = some q →
        s.nu.inFlight.find? (fun x => x.sequence = q) = some n →
        exec .egressGrant s =
          .next { s with
            nu := { s.nu with due := s.nu.due.filter (fun x => x ≠ q) }
            ci := { s.ci with
              port := .busy .note (originated m 6 (n.sequence.setWidth 8) n.payload s).bytes
              lastClass := some .originated } }))

/-- R19, R120, R169: the end of a transmission frees the port and reaches the producer: FRAMES_FORWARDED for a transit frame, nothing for a
reply; a SET gives SETS_SENT and, in SENDING with transmitting, AWAIT_ACK with the ack timer; a NOTE gives NOTES_SENT and starts a
stopped resend timer when a note is in flight. -/
def Obligations.TransmissionEnds : Prop :=
  ∀ (s : State) (bytes : List Byte),
    let freed := { s with ci := { s.ci with port := .free } }
    (s.ci.port = .busy .transit bytes → exec .egressDone s = .next (settleIdlePort (signal .framesForwarded freed))) ∧
    (s.ci.port = .busy .reply bytes → exec .egressDone s = .next (settleIdlePort freed)) ∧
    (∀ c, s.ci.port = .busy (.channel c) bytes →
      ((s.chan c).state = .sending → (s.chan c).transmitting = true →
        exec .egressDone s =
          .next (settleIdlePort ((signal .setsSent freed).setChan c { s.chan c with
            transmitting := false, state := .awaitAck
            ackTimer := some (s.timebase + BitVec.ofNat 32 ((s.chan c).config.ackTimeout * 10)) }))) ∧
      ((s.chan c).transmitting = false → exec .egressDone s = .next (settleIdlePort (signal .setsSent freed)))) ∧
    (s.ci.port = .busy .note bytes →
      let told := signal .notesSent freed
      (s.nu.resendTimer = none → s.nu.inFlight ≠ [] →
        exec .egressDone s =
          .next (settleIdlePort { told with nu := { told.nu with resendTimer := some (s.timebase + 1000) } })) ∧
      (s.nu.resendTimer.isSome ∨ s.nu.inFlight = [] → exec .egressDone s = .next (settleIdlePort told)))

/-- R14, R103: SET_CHAIN takes a hop budget of 1 to 255 and refuses 0 with RANGE; SET_OVERRIDE takes a hold time of 0 to 60 s and refuses
more with RANGE. The reply carries the value now in force; nothing else changes. -/
def Obligations.ChainAndHoldSettings : Prop :=
  ∀ (q : Request) (rest : List Request) (s : State) (v : Byte), Ready q rest s →
    (q.payload = [7, v] → 1 ≤ v.toNat →
      exec .setChain s = .next (answered q .ok [v] { taken rest s with ci := { s.ci with hopBudget := v } })) ∧
    (q.payload = [7, v] → v.toNat = 0 → exec .setChain s = .next (refusedWith q .range (taken rest s))) ∧
    (q.payload = [8, v] → v.toNat ≤ 60 →
      exec .setOverride s = .next (answered q .ok [v] { taken rest s with om := { s.om with holdTime := v.toNat } })) ∧
    (q.payload = [8, v] → 61 ≤ v.toNat → exec .setOverride s = .next (refusedWith q .range (taken rest s)))

/-! ## Request Unit (chapter 8) -/

/-- R146: no request is taken while the FIFO is empty, a reply waits or a request is in execution, nor by a command that does not take the
request at the head; then nothing changes (the model's choice, log entry 2), but for the READ_STATUS in execution, which READ_STATUS goes on
with (ReadingRequests). An expiry whose timer is not due, a frame end with no frame waiting or in work, a grant at a
BUSY port or with no candidate, and an end of transmission at a FREE port change nothing either. -/
def Obligations.NothingHappensOutOfTurn : Prop :=
  (∀ (i : Instr) (s : State), TakesRequests i → i ≠ .readStatus ∨ s.ru.execution = none →
    (s.ru.fifo = [] ∨ s.ru.slot ≠ none ∨ s.ru.ready ≠ [] ∨ s.ru.execution ≠ none → exec i s = .next s) ∧
    (∀ q rest, s.ru.fifo = q :: rest → ¬ Takes i q → exec i s = .next s)) ∧
  (∀ s : State,
    (s.ci.rx.awaiting = none → s.ci.sample = none → exec .frameEnd s = .next s) ∧
    (s.ci.port ≠ .free ∨ classGranted s = none → exec .egressGrant s = .next s) ∧
    (s.ci.port = .free → exec .egressDone s = .next s) ∧
    (timerDue s.timebase s.ci.linkTimer = false → exec .linkDownTimerExpiry s = .next s) ∧
    (timerDue s.timebase s.om.holdTimer = false → exec .holdTimerExpiry s = .next s) ∧
    (timerDue s.timebase s.nu.resendTimer = false → exec .resendTimerExpiry s = .next s) ∧
    (∀ i, (∀ p, s.point i = some p → timerDue s.timebase p.staleTimer = false) → exec (.stalenessExpiry i) s = .next s) ∧
    (∀ r, timerDue s.timebase (s.reg r).periodTimer = false → exec (.periodTimerExpiry r) s = .next s) ∧
    (∀ r, timerDue s.timebase (s.sup r).window = false → exec (.stallWindowExpiry r) s = .next s) ∧
    (∀ c, timerDue s.timebase (s.chan c).ackTimer = false → exec (.ackTimerExpiry c) s = .next s) ∧
    (∀ c, timerDue s.timebase (s.chan c).probeTimer = false → exec (.probeTimerExpiry c) s = .next s) ∧
    ((∀ d, s.sweep = some d → timerDue s.timebase d.stepTimer = false) → exec .sweepStepExpiry s = .next s))

/-- R150, R151: a new request with an empty payload, an undefined code or a length its code does not admit is answered BAD_REQUEST; one of
an admitted form from a node other than the manager, and not open to all, is answered NOT_MANAGER. The admitted lengths are those of
section 11.5 (`Admitted`). Each refusal makes a DONE entry, fills the slot, gives one REQ_REFUSED event and changes nothing else. -/
def Obligations.BadAndUnauthorisedRequests : Prop :=
  ∀ (q : Request) (rest : List Request) (s : State), NewRequest q rest s →
    (q.payload = [] → exec .malformedRequest s = .next (refusedWith q .badRequest (taken rest s))) ∧
    (∀ b, q.payload.head? = some b → (∀ c : RequestCode, c.byte ≠ b) →
      exec .malformedRequest s = .next (refusedWith q .badRequest (taken rest s))) ∧
    (∀ c : RequestCode, q.payload.head? = some c.byte → ¬ Admitted c q.payload.length →
      exec (commandOf c) s = .next (refusedWith q .badRequest (taken rest s))) ∧
    (∀ (c : RequestCode) (m : Byte), q.payload.head? = some c.byte → Admitted c q.payload.length →
      s.ru.manager = some m → q.src ≠ m →
      c ∉ [.identify, .readStatus, .readPoint, .findPoint, .readRegulator, .readActuator, .readCounters, .bind, .unbind] →
      exec (commandOf c) s = .next (refusedWith q .notManager (taken rest s)))

/-- R147, R148: a request taken whose src is 0 or above 126 is discarded with one REQ_DROPPED event; one whose pair an entry carries is not
executed: a DONE entry's cached reply goes into the slot, a PENDING entry discards it. Nothing else changes. -/
def Obligations.DiscardedAndResentRequests : Prop :=
  ∀ (i : Instr) (q : Request) (rest : List Request) (s : State), AtHead q rest s → Takes i q →
    (q.src.toNat = 0 ∨ 127 ≤ q.src.toNat → exec i s = .next (signal .reqDropped { s with ru := { s.ru with fifo := rest } })) ∧
    (∀ e, 1 ≤ q.src.toNat → q.src.toNat ≤ 126 → (s.ru.recent.map (·.ref)).Nodup → e ∈ s.ru.recent →
      e.ref = { src := q.src, seq := q.seq } →
      (∀ r, e.status = .done r → exec i s = .next { s with ru := { s.ru with fifo := rest, slot := some r } }) ∧
      (e.status = .pending → exec i s = .next { s with ru := { s.ru with fifo := rest } }))

/-- R88, R136, R142, R144 and sections 4.6, 6.7: a regulator index above 31 and a channel index above 15 are refused with RANGE. -/
def Obligations.IndicesOutOfRangeAreRefused : Prop :=
  ∀ (q : Request) (rest : List Request) (s : State), Ready q rest s →
    (32 ≤ numAt q.payload 1 →
      (Carries q 34 3 → exec .readRegulator s = .next (refusedWith q .range (taken rest s))) ∧
      (Carries q 35 2 → exec .enableRegulator s = .next (refusedWith q .range (taken rest s))) ∧
      (Carries q 36 2 → exec .disableRegulator s = .next (refusedWith q .range (taken rest s))) ∧
      (Carries q 37 4 → exec .takeManual s = .next (refusedWith q .range (taken rest s))) ∧
      (Carries q 38 4 → exec .setManualLevel s = .next (refusedWith q .range (taken rest s))) ∧
      (Carries q 39 2 → exec .releaseManual s = .next (refusedWith q .range (taken rest s))) ∧
      (∀ n, 19 ≤ n → n ≤ 60 → Carries q 32 n → exec .writeRegulator s = .next (refusedWith q .range (taken rest s))) ∧
      (∀ n, n ≤ 14 → Carries q 33 (2 + 4 * n) → exec .writeCurve s = .next (refusedWith q .range (taken rest s)))) ∧
    (16 ≤ numAt q.payload 1 →
      (Carries q 48 6 → exec .writeActuator s = .next (refusedWith q .range (taken rest s))) ∧
      (Carries q 49 2 → exec .readActuator s = .next (refusedWith q .range (taken rest s))) ∧
      (Carries q 50 2 → exec .resetActuator s = .next (refusedWith q .range (taken rest s))))

/-! ## Point Engine (chapters 2 and 3) -/

/-- R8, R38, R58, R62, R63: a SAMPLE from another node. A well formed one (3 to 24 bytes, three a reading) has its readings taken in order;
then it is dropped when none stays, consumed when its dest is the own address, and otherwise forwarded with those that stay by R10 and
R11. One that is not well formed is consumed or forwarded as it is. By the sender's choice a FRAME_END stops between two readings (log
entries 22 and 23); the next one takes the later readings in the state as it then stands, so that whatever was taken between them divides
the frame (R38). What completes a frame before the next one ends, or before the link goes DOWN, is never so divided. -/
def Obligations.SampleFrames : Prop :=
  (∀ (f : Frame) (e : Time) (s : State), ArrivedHere f e s → f.type = 1 →
    let u := received e s
    (f.payload.length ∈ [3, 6, 9, 12, 15, 18, 21, 24] →
      let readings := readingsOf f.payload
      (let a := takeReadings f.src readings u
       frameEnd false s = settleIdlePort (returned f a.2 a.1) ∧
       (Undivided s → exec .frameEnd s = .next (settleIdlePort (returned f a.2 a.1)))) ∧
      (∀ n later, s.turns = .readings n :: later →
        let a := takeReadings f.src (readings.take n) { u with turns := later }
        (readings.length ≤ n.val → exec .frameEnd s = .next (settleIdlePort (returned f a.2 a.1))) ∧
        (n.val < readings.length →
          exec .frameEnd s =
            .next (settleIdlePort { a.1 with ci := { a.1.ci with
              sample := some { frame := f, kept := a.2, left := readings.drop n } } })))) ∧
    (f.payload.length ∉ [3, 6, 9, 12, 15, 18, 21, 24] →
      (f.dest = s.ownAddress → exec .frameEnd s = .next (settleIdlePort u)) ∧
      (f.dest ≠ s.ownAddress → exec .frameEnd s = .next (settleIdlePort (passedOn f u))))) ∧
  (∀ (w : SampleInWork) (s : State), s.ci.sample = some w →
    let begun := { s with ci := { s.ci with sample := none } }
    (let a := takeReadings w.frame.src w.left begun
     frameEnd false s = settleIdlePort (returned w.frame (w.kept ++ a.2) a.1) ∧
     (Undivided s → exec .frameEnd s = .next (settleIdlePort (returned w.frame (w.kept ++ a.2) a.1)))) ∧
    (∀ n later, s.turns = .readings n :: later →
      let a := takeReadings w.frame.src (w.left.take n) { begun with turns := later }
      (w.left.length ≤ n.val → exec .frameEnd s = .next (settleIdlePort (returned w.frame (w.kept ++ a.2) a.1))) ∧
      (n.val < w.left.length →
        exec .frameEnd s =
          .next (settleIdlePort { a.1 with ci := { a.1.ci with
            sample := some { frame := w.frame, kept := w.kept ++ a.2, left := w.left.drop n } } }))))

/-- R24, R25, R192: the readings of a frame are taken one after another and those that stay keep their order; a reading is looked up by the
frame's src and the low four bits of its first byte. An unmatched reading gives READINGS_UNMATCHED and a matched one with the quality
bit set READINGS_MATCHED; both stay in the frame and change nothing else. -/
def Obligations.ReadingsThatAreNotAccepted : Prop :=
  (∀ (src : Byte) (r : Reading) (rest : List Reading) (s : State),
    takeReadings src [] s = (s, []) ∧
    takeReadings src (r :: rest) s =
      (let a := takeReading src r s
       let b := takeReadings src rest a.1
       (b.1, if a.2 = true then r :: b.2 else b.2))) ∧
  (∀ (src : Byte) (r : Reading) (s : State),
    r.channel.val = r.head.toNat % 16 ∧
    ((∀ i p, s.point i = some p → p.config.key ≠ { node := src, channel := r.channel }) →
      takeReading src r s = (signal .readingsUnmatched s, true)) ∧
    (∀ i p, s.point i = some p → p.config.key = { node := src, channel := r.channel } → r.head.getLsbD 4 = true →
      takeReading src r s = (signal .readingsMatched s, true)))

/-- R26 to R29, R50 to R54, R58 to R60: an accepted reading, step by step. The converted value, the filter, the statistics, the staleness
timer, the band (R47, R48, given by `nextBand`), the BAND note, the report to the Override Monitor, the hand-off to the supervisors, the
watch with its WATCH note, and the forward decision with READINGS_SUPPRESSED for a removed reading. -/
def Obligations.AcceptedReading : Prop :=
  ∀ (src : Byte) (r : Reading) (i : Fin 256) (p : Point) (s : State), PointLaw s → s.point i = some p →
    p.config.key = { node := src, channel := r.channel } → r.head.getLsbD 4 = false →
    let g := p.config
    let c := max (-32768) (min 32767 ((((r.rawHigh ++ r.rawLow : BitVec 16).toInt * g.gain).tdiv 256) + g.offset))
    let old := p.runtime.band
    let f := match p.runtime.filtered with
      | none => c
      | some v => if old = .unknown ∨ old = .stale then c else v + (c - v).tdiv (2 ^ g.shift.val)
    let new := nextBand g.thresholds g.hyst old f
    let runtime : PointRuntime :=
      { band := new, filtered := some f, lastRaw := some (r.rawHigh ++ r.rawLow : BitVec 16).toInt, lastConverted := some c
        min := some (match p.runtime.min with | none => c | some v => min v c)
        max := some (match p.runtime.max with | none => c | some v => max v c)
        count := min 65535 (p.runtime.count + 1), lastSeen := some s.timebase
        lastForwarded := p.runtime.lastForwarded, sinceForward := p.runtime.sinceForward }
    let timer := match g.maxAge with
      | none => p.staleTimer
      | some age => some (s.timebase + BitVec.ofNat 32 (age * 100))
    let kept : Bool := match g.forward with
      | .pass => true
      | .suppress => false
      | .onChange => new ≠ old || g.refresh ≤ p.runtime.sinceForward + 1 || (match p.runtime.lastForwarded with
        | none => true
        | some v => decide (g.deadband ≤ (c - v).natAbs))
    let beyond (w : Watch) : Bool := match w.direction with
      | .above => w.threshold < f
      | .below => f < w.threshold
    let watch := p.watch.map fun w => if w.valid && w.tripped then w else { w with valid := true, tripped := beyond w }
    let trips := p.watch.any fun w => w.note && !w.tripped && beyond w
    let s1 := (signal .readingsMatched s).setPoint i (some { p with runtime := runtime, staleTimer := timer })
    let s2 := if g.bandNotes = true ∧ new ≠ old ∧ ¬ (old = .unknown ∧ new = .normal) then
      raise .band (some i.val) new.code (if new = .critHigh ∨ new = .critLow then .crit else if new = .normal then .info else .warn) s1
      else s1
    let s3 := if g.escalate = true ∧ new ≠ old ∧
        (new = .critHigh ∨ new = .critLow ∨ old = .critHigh ∨ old = .critLow ∨ old = .stale) then reportBand i new s2 else s2
    let s4 := handFeedback i f s3
    let s5 := s4.setPoint i (some { p with
      runtime := if g.forward = .onChange then
          (if kept then { runtime with lastForwarded := some c, sinceForward := 0 }
           else { runtime with sinceForward := p.runtime.sinceForward + 1 })
        else runtime
      staleTimer := timer
      watch := watch })
    let s6 := if trips then raise .watch (some i.val) f .info s5 else s5
    takeReading src r s = (if kept then s6 else signal .readingsSuppressed s6, kept)

/-- R45: the raw band of a value, by the first threshold present that it reaches, in the order high_crit, high_warn, low_crit, low_warn;
NORMAL when it reaches none. R47, R48: the new band. From UNKNOWN, STALE and NORMAL, on the other side or at least as severe it is the
raw band; in a retreat it is held unless the raw band of the value moved back by hyst is less severe too. -/
def Obligations.BandOfAReading : Prop :=
  ∀ (t : Thresholds) (hyst : Nat) (v : Int),
    let highCrit := ∃ h, t.highCrit = some h ∧ h ≤ v
    let highWarn := ∃ h, t.highWarn = some h ∧ h ≤ v
    let lowCrit := ∃ h, t.lowCrit = some h ∧ v ≤ h
    let lowWarn := ∃ h, t.lowWarn = some h ∧ v ≤ h
    (highCrit → t.rawBand v = .critHigh) ∧
    (¬ highCrit → highWarn → t.rawBand v = .warnHigh) ∧
    (¬ highCrit → ¬ highWarn → lowCrit → t.rawBand v = .critLow) ∧
    (¬ highCrit → ¬ highWarn → ¬ lowCrit → lowWarn → t.rawBand v = .warnLow) ∧
    (¬ highCrit → ¬ highWarn → ¬ lowCrit → ¬ lowWarn → t.rawBand v = .normal) ∧
    (∀ held, held = .unknown ∨ held = .stale ∨ held = .normal → nextBand t hyst held v = t.rawBand v) ∧
    (nextBand t hyst .warnHigh v =
      if t.rawBand v = .normal then
        (if t.rawBand (v + hyst) = .warnHigh ∨ t.rawBand (v + hyst) = .critHigh then .warnHigh else t.rawBand (v + hyst))
      else t.rawBand v) ∧
    (nextBand t hyst .critHigh v =
      if t.rawBand v = .normal ∨ t.rawBand v = .warnHigh then t.rawBand (v + hyst) else t.rawBand v) ∧
    (nextBand t hyst .warnLow v =
      if t.rawBand v = .normal then
        (if t.rawBand (v - hyst) = .warnLow ∨ t.rawBand (v - hyst) = .critLow then .warnLow else t.rawBand (v - hyst))
      else t.rawBand v) ∧
    (nextBand t hyst .critLow v =
      if t.rawBand v = .normal ∨ t.rawBand v = .warnLow then t.rawBand (v - hyst) else t.rawBand v)

/-! ## Override Monitor (chapter 5) -/

/-- R80, R95, R98, R99: a report of a critical band that finds the set empty and the phase CLEAR opens an override. The point is the one
member, the phase ACTIVE, the start time now, the alert record's override part set, one OVERRIDE_ON note is raised, and every regulator
in AUTO or FAILSAFE that participates enters OVERRIDE at its ceiling, which its channel is told; nothing else changes. -/
def Obligations.OverrideOpens : Prop :=
  ∀ (p : Fin 256) (b : Band) (s : State), RegulatorLaw s → s.om.critical = [] → s.om.phase = .clear → b = .critHigh ∨ b = .critLow →
    let told := raise .overrideOn none p.val .crit
      (phased { s.om with critical := [p], phase := .active, startTime := some s.timebase } s)
    let moves (r : Fin 32) := ((s.reg r).state = .auto ∨ (s.reg r).state = .failsafe) ∧ (s.reg r).config.participate = true
    let t := reportBand p b s
    SameAround s t ∧ t.points = s.points ∧ t.sups = s.sups ∧ t.om = told.om ∧ t.nu = told.nu ∧ t.counters = told.counters ∧
    (∀ r, moves r → t.reg r = { s.reg r with state := .override, output := some (s.reg r).config.ceiling } ∧
      t.chan (s.reg r).config.actuator = desiring (s.reg r).config.ceiling (s.chan (s.reg r).config.actuator)) ∧
    (∀ r, ¬ moves r → t.reg r = s.reg r) ∧
    (∀ c, (∀ r, moves r → (s.reg r).config.actuator ≠ c) → t.chan c = s.chan c)

/-- R81, R95, R96, R98, R100, R101: the other changes of the critical set, and the hold expiry. A critical report of a member, and another
report of a point that is no member, change nothing; a point that joins a set with members only joins; one that joins in HOLDING makes
the phase ACTIVE again without note or notice. The last member to leave starts the hold (hold time above 0) or clears the override; the
hold expiry clears it: one OVERRIDE_OFF note with the whole seconds, then every regulator in OVERRIDE evaluates, in ascending index
order (the model's choice, log entry 6). -/
def Obligations.OverrideChangesAndEnds : Prop :=
  (∀ (p : Fin 256) (b : Band) (s : State), b = .critHigh ∨ b = .critLow →
    (p ∈ s.om.critical → reportBand p b s = s) ∧
    (p ∉ s.om.critical → s.om.critical ≠ [] →
      reportBand p b s = { s with om := { s.om with critical := insertIndex p s.om.critical } }) ∧
    (s.om.critical = [] → s.om.phase = .holding →
      reportBand p b s = phased { s.om with critical := [p], phase := .active, holdTimer := none } s)) ∧
  (∀ (s : State) (d : Time), s.om.startTime = some d →
    let cleared (u : State) := forEachRegulator clearingNotice
      (raise .overrideOff none (min 32767 ((s.timebase - d).toNat / 1000)) .info
        (phased { u.om with phase := .clear, holdTimer := none, startTime := none } u))
    (∀ (p : Fin 256) (b : Band), b ≠ .critHigh → b ≠ .critLow →
      (p ∉ s.om.critical → reportBand p b s = s) ∧
      (p ∈ s.om.critical → (∃ q ∈ s.om.critical, q ≠ p) →
        reportBand p b s = { s with om := { s.om with critical := s.om.critical.filter (· ≠ p) } }) ∧
      (s.om.critical = [p] → 0 < s.om.holdTime →
        reportBand p b s = phased { s.om with
          critical := [], phase := .holding, holdTimer := some (s.timebase + BitVec.ofNat 32 (s.om.holdTime * 1000)) } s) ∧
      (s.om.critical = [p] → s.om.holdTime = 0 →
        reportBand p b s = cleared { s with om := { s.om with critical := [] } })) ∧
    (s.om.phase = .holding → timerDue s.timebase s.om.holdTimer = true → exec .holdTimerExpiry s = .next (cleared s))) ∧
  (∀ (r : Fin 32) (s : State),
    ((s.reg r).state = .override → clearingNotice r s = evaluate true r s) ∧
    ((s.reg r).state ≠ .override → clearingNotice r s = s))

/-- R105, R106, R108, R115: what feedback readings and changes of an acked level do to the supervisors. A reading at or above the floor
stops the window and clears STALLED, with a STALL_CLEARED note; one below it starts the window of an armed supervisor that is neither
STALLED nor running. A change of acked that disarms stops the window; one that arms starts it only when the feedback point is STALE and
STALLED is clear. Only supervisors, the alert record, notes and counters change. -/
def Obligations.StallSupervision : Prop :=
  (∀ (p : Fin 256) (f : Int) (s : State),
    let t := handFeedback p f s
    SameAround s t ∧ t.points = s.points ∧ t.regs = s.regs ∧ t.om = s.om ∧ t.chans = s.chans ∧
    (∀ r, ¬ Watches (s.reg r) p → t.sup r = s.sup r) ∧
    (∀ r, Watches (s.reg r) p → (s.reg r).config.stallFloor ≤ f → t.sup r = { stalled := false, window := none }) ∧
    (∀ r, Watches (s.reg r) p → f < (s.reg r).config.stallFloor → Arming (s.chan (s.reg r).config.actuator).acked →
      s.sup r = { stalled := false, window := none } →
      t.sup r = { stalled := false, window := some (s.timebase + BitVec.ofNat 32 ((s.reg r).config.stallWindow * 100)) }) ∧
    (∀ r, Watches (s.reg r) p → f < (s.reg r).config.stallFloor →
      ¬ Arming (s.chan (s.reg r).config.actuator).acked ∨ (s.sup r).stalled = true ∨ (s.sup r).window.isSome → t.sup r = s.sup r) ∧
    (SupervisorLaw s → SupervisorLaw t)) ∧
  (∀ (p : Fin 256) (f : Int) (r : Fin 32) (s : State), Watches (s.reg r) p → (s.reg r).config.stallFloor ≤ f → (s.sup r).stalled = true →
    feedbackReading p f r s =
      raise .stallCleared (some r.val) f .info (stalledOut r (s.setSup r { stalled := false, window := none }))) ∧
  (∀ (c : Fin 16) (old : Option Nat) (r : Fin 32) (p : Fin 256) (s : State), RegulatorLaw s → Watches (s.reg r) p →
    (s.reg r).config.actuator = c →
    (Arming old → ¬ Arming (s.chan c).acked → ackedChanged c old s = s.setSup r { s.sup r with window := none }) ∧
    (¬ Arming old → Arming (s.chan c).acked → (∃ q, s.point p = some q ∧ q.runtime.band = .stale) →
      s.sup r = { stalled := false, window := none } →
      ackedChanged c old s = s.setSup r
        { stalled := false, window := some (s.timebase + BitVec.ofNat 32 ((s.reg r).config.stallWindow * 100)) }) ∧
    (¬ Arming old → Arming (s.chan c).acked → (∀ q, s.point p = some q → q.runtime.band ≠ .stale) ∨ (s.sup r).stalled = true →
      ackedChanged c old s = s) ∧
    ((Arming old ↔ Arming (s.chan c).acked) → ackedChanged c old s = s))

/-- R31, R96, R106: a staleness expiry makes the band STALE, keeps all else of the record, stops its timer, raises a STALE note with the old
band when band_notes is set, leaves the critical set, and starts the window of each armed supervisor of the point that is neither STALLED
nor running. R107: a window expiry sets STALLED, stops the window and raises one STALL note with the acked level. -/
def Obligations.StalenessAndWindowExpiries : Prop :=
  (∀ (i : Fin 256) (p : Point) (s : State), s.point i = some p → timerDue s.timebase p.staleTimer = true →
    let staled := s.setPoint i (some { p with runtime := { p.runtime with band := .stale }, staleTimer := none })
    let noted := if p.config.bandNotes then raise .stale (some i.val) p.runtime.band.code .warn staled else staled
    ∃ t, exec (.stalenessExpiry i) s = .next t ∧
      SameAround s t ∧ t.points = staled.points ∧ t.regs = s.regs ∧ t.om = s.om ∧ t.chans = s.chans ∧
      t.nu = noted.nu ∧ t.counters = noted.counters ∧
      (∀ r, Watches (s.reg r) i → Arming (s.chan (s.reg r).config.actuator).acked → s.sup r = { stalled := false, window := none } →
        t.sup r = { stalled := false, window := some (s.timebase + BitVec.ofNat 32 ((s.reg r).config.stallWindow * 100)) }) ∧
      (∀ r, ¬ Watches (s.reg r) i ∨ ¬ Arming (s.chan (s.reg r).config.actuator).acked ∨ (s.sup r).stalled = true ∨
        (s.sup r).window.isSome → t.sup r = s.sup r)) ∧
  (∀ (r : Fin 32) (l : Nat) (s : State), timerDue s.timebase (s.sup r).window = true →
    (s.chan (s.reg r).config.actuator).acked = some l →
    exec (.stallWindowExpiry r) s =
      .next (raise .stall (some r.val) l .crit (stalledIn r (s.setSup r { stalled := true, window := none }))))

/-! ## Point requests (chapters 2 and 3) -/

/-- R34 to R37: WRITE_POINT. An inadmissible configuration is refused with RANGE, a key another record holds with DUPLICATE_KEY, a kind
other than SPEED for a feedback point with IN_USE. Else an empty record is occupied afresh; another key resets the runtime and keeps an
invalidated watch; the same key keeps runtime and watch. A critical point leaves the set with its key or its escalate flag. -/
def Obligations.WritePoint : Prop :=
  ∀ (q : Request) (rest : List Request) (i : Fin 256) (s : State), Ready q rest s → Carries q 16 28 → numAt q.payload 1 = i.val →
    (pointConfig? q.payload = none → exec .writePoint s = .next (refusedWith q .range (taken rest s))) ∧
    (∀ c, pointConfig? q.payload = some c →
      let held := ∃ j p, j ≠ i ∧ s.point j = some p ∧ p.config.key = c.key
      let fed := ∃ r, (s.reg r).config.inputs ≠ [] ∧ (s.reg r).config.feedback = some i
      let ok (u : State) := exec .writePoint s = .next (answered q .ok [byteAt q.payload 1] u)
      (held → exec .writePoint s = .next (refusedWith q .duplicateKey (taken rest s))) ∧
      (¬ held → fed → c.kind ≠ .speed → exec .writePoint s = .next (refusedWith q .inUse (taken rest s))) ∧
      (¬ held → (fed → c.kind = .speed) →
        (s.point i = none →
          ok ((taken rest s).setPoint i
            (some { config := c, runtime := freshRuntime, staleTimer := staleFrom s.timebase c.maxAge, watch := none }))) ∧
        (∀ p, s.point i = some p → p.config.key ≠ c.key →
          ok (leaveCritical i ((taken rest s).setPoint i (some
            { config := c, runtime := freshRuntime, staleTimer := staleFrom s.timebase c.maxAge
              watch := p.watch.map invalidated })))) ∧
        (∀ p, s.point i = some p → p.config.key = c.key →
          let timer := if c.maxAge = p.config.maxAge ∨ (c.maxAge ≠ none ∧ p.runtime.band = .stale) then p.staleTimer
            else staleFrom s.timebase c.maxAge
          let written := (taken rest s).setPoint i (some { p with config := c, staleTimer := timer })
          ok (if c.escalate then written else leaveCritical i written))))

/-- R40, R41, R55, R56: DELETE_POINT empties a record that no regulator names and takes it out of the critical set; FIND_POINT, from any node,
answers the index of the record with the key; SET_WATCH writes a fresh watch; CLEAR_WATCH removes it. The refusals are NOT_FOUND, IN_USE
and RANGE. Nothing else of the record changes. -/
def Obligations.PointRequests : Prop :=
  ∀ (q : Request) (rest : List Request) (s : State), NewRequest q rest s →
    (∀ i : Fin 256, s.ru.manager = none ∨ s.ru.manager = some q.src → numAt q.payload 1 = i.val →
      let named := ∃ r, i ∈ (s.reg r).config.inputs ∨ ((s.reg r).config.inputs ≠ [] ∧ (s.reg r).config.feedback = some i)
      (Carries q 18 2 →
        (s.point i = none → exec .deletePoint s = .next (refusedWith q .notFound (taken rest s))) ∧
        (s.point i ≠ none → named → exec .deletePoint s = .next (refusedWith q .inUse (taken rest s))) ∧
        (s.point i ≠ none → ¬ named →
          exec .deletePoint s =
            .next (answered q .ok [byteAt q.payload 1] (leaveCritical i ((taken rest s).setPoint i none))))) ∧
      (Carries q 20 6 →
        (1 < numAt q.payload 4 ∨ 1 < numAt q.payload 5 → exec .setWatch s = .next (refusedWith q .range (taken rest s))) ∧
        (numAt q.payload 4 ≤ 1 → numAt q.payload 5 ≤ 1 → s.point i = none →
          exec .setWatch s = .next (refusedWith q .notFound (taken rest s))) ∧
        (∀ p, numAt q.payload 4 ≤ 1 → numAt q.payload 5 ≤ 1 → s.point i = some p →
          exec .setWatch s = .next (answered q .ok [byteAt q.payload 1] ((taken rest s).setPoint i (some { p with
            watch := some
              { threshold := (byteAt q.payload 2 ++ byteAt q.payload 3 : BitVec 16).toInt
                direction := if numAt q.payload 4 = 0 then .above else .below
                note := decide (numAt q.payload 5 = 1), valid := false, tripped := false } }))))) ∧
      (Carries q 21 2 →
        (s.point i = none → exec .clearWatch s = .next (refusedWith q .notFound (taken rest s))) ∧
        (∀ p, s.point i = some p →
          exec .clearWatch s =
            .next (answered q .ok [byteAt q.payload 1] ((taken rest s).setPoint i (some { p with watch := none })))))) ∧
    (Carries q 19 3 →
      (numAt q.payload 1 = 0 ∨ 126 < numAt q.payload 1 ∨ 15 < numAt q.payload 2 →
        exec .findPoint s = .next (refusedWith q .range (taken rest s))) ∧
      (∀ k : Key, k.node = byteAt q.payload 1 → k.channel.val = numAt q.payload 2 → 1 ≤ numAt q.payload 1 → numAt q.payload 1 ≤ 126 →
        (∀ i p, PointLaw s → s.point i = some p → p.config.key = k →
          exec .findPoint s = .next (answered q .ok [BitVec.ofNat 8 i.val] (taken rest s))) ∧
        ((∀ i p, s.point i = some p → p.config.key ≠ k) →
          exec .findPoint s = .next (refusedWith q .notFound (taken rest s)))))

/-- R39, R87, R131, R158, R159, R190, R194: six reading requests (FIND_POINT is in PointRequests) are answered to any node with the record or
the part as it stands, laid out byte by byte as section 11.7 gives it, and change nothing else; READ_POINT of an unoccupied record is
NOT_FOUND, a READ_REGULATOR part above 1 is RANGE. READ_STATUS reads its groups together, or, by the sender's choice, only some of them (log
entries 10 and 22); then it stays in execution, and the next READ_STATUS command reads others or all that are left, each group as its block
then stands, so that whatever was taken in between leaves two groups reporting different moments. It is answered once every group is read,
with the Timebase at which it was taken. R176: the line ALERT_N that READ_STATUS reports is asserted while a condition of the alert record holds, outside TRANSPARENT mode; under
the laws of the blocks, while the phase is not CLEAR, a channel is faulted, or a regulator is STALLED. -/
def Obligations.ReadingRequests : Prop :=
  (∀ (q : Request) (rest : List Request) (s : State), NewRequest q rest s →
    (Carries q 1 1 →
      exec .identify s =
        .next (answered q .ok [90, 12, 144, 1, s.ownAddress, 1, 0, 32, 16, 4, 32, 4, 4] (taken rest s))) ∧
    (Carries q 2 1 →
      (ReadWhole s → exec .readStatus s = .next (answered q .ok (statusReply (taken rest s)) (taken rest s))) ∧
      (∀ gs later, s.turns = .groups gs :: later →
        exec .readStatus s =
          .next (statusRead q (readNow gs (taken rest s) (nothingRead s.timebase)) { taken rest s with turns := later }))) ∧
    (Carries q 17 2 → ∀ i : Fin 256, numAt q.payload 1 = i.val →
      (s.point i = none → exec .readPoint s = .next (refusedWith q .notFound (taken rest s))) ∧
      (∀ p, s.point i = some p →
        exec .readPoint s = .next (answered q .ok (pointReply i p s.timebase) (taken rest s)))) ∧
    (Carries q 34 3 → ∀ r : Fin 32, numAt q.payload 1 = r.val →
      (numAt q.payload 2 = 0 → exec .readRegulator s = .next (answered q .ok (regulatorReply0 r s) (taken rest s))) ∧
      (numAt q.payload 2 = 1 → exec .readRegulator s = .next (answered q .ok (regulatorReply1 r s) (taken rest s))) ∧
      (2 ≤ numAt q.payload 2 → exec .readRegulator s = .next (refusedWith q .range (taken rest s)))) ∧
    (Carries q 49 2 → ∀ c : Fin 16, numAt q.payload 1 = c.val →
      exec .readActuator s = .next (answered q .ok (actuatorReply c s) (taken rest s))) ∧
    (Carries q 67 1 → exec .readCounters s = .next (answered q .ok (countersReply s) (taken rest s)))) ∧
  (∀ (x : Execution) (s : State), s.ru.execution = some x →
    (ReadWhole s → exec .readStatus s = .next (statusRead x.request (readNow allGroups s x.read) s)) ∧
    (∀ gs later, s.turns = .groups gs :: later →
      exec .readStatus s = .next (statusRead x.request (readNow gs s x.read) { s with turns := later }))) ∧
  (∀ s : State,
    (s.alertAsserted = true ↔
      s.transparent = false ∧ (s.nu.alert.override = true ∨ s.nu.alert.faulted ≠ [] ∨ s.nu.alert.stalled ≠ [])) ∧
    (OverrideLaw s → ChannelLaw s → SupervisorLaw s →
      (s.alertAsserted = true ↔ s.transparent = false ∧
        (s.om.phase ≠ .clear ∨ (∃ c, isFaulted (s.chan c) = true) ∨ ∃ r, (s.sup r).stalled = true))))

/-! ## Regulator Engine (chapters 4 and 7) -/

/-- R76: the curve step: the first level up to the first input, the last level from the last input, and between two breakpoints the
truncated segment value, which lies between their levels. R77: the output moves toward the limited target by at most slew, and the final
ceiling holds without slew; the result is a level 0 to ceiling. -/
def Obligations.CurveAndSlew : Prop :=
  (∀ (c : List Breakpoint) (x : Int), curveValid c = true →
    (∀ a, c.head? = some a → x ≤ a.input → curveTarget c x = a.level) ∧
    (∀ a, c.getLast? = some a → a.input ≤ x → curveTarget c x = a.level) ∧
    (∀ before after a b, c = before ++ a :: b :: after → a.input ≤ x → x < b.input →
      (curveTarget c x : Int) = a.level + ((x - a.input) * ((b.level : Int) - a.level)).tdiv (b.input - a.input) ∧
      min a.level b.level ≤ curveTarget c x ∧ curveTarget c x ≤ max a.level b.level) ∧
    (∀ a ∈ c, x = a.input → curveTarget c x = a.level) ∧
    curveTarget c x ≤ 1000) ∧
  (∀ target slew ceiling : Nat,
    slewOutput none target slew ceiling = min target ceiling ∧
    (∀ o, slewOutput (some o) target slew ceiling =
      min ceiling (if o + slew < min target ceiling then o + slew else if min target ceiling + slew < o then o - slew
        else min target ceiling)) ∧
    (∀ o, slewOutput o target slew ceiling ≤ ceiling))

/-- R71 to R79: a period expiry evaluates in AUTO and FAILSAFE, re-asserts the ceiling in OVERRIDE, starts the timer again there, and does
nothing elsewhere. An evaluation without fresh input ends in FAILSAFE at the failsafe level; with fresh inputs, combined into x, it ends
in AUTO with the off latch tested and the output slewed toward the curve's target. It writes the output to the channel; REG_STATE is
raised on a move into FAILSAFE and from FAILSAFE to AUTO. -/
def Obligations.PeriodExpiryAndEvaluation : Prop :=
  ∀ (r : Fin 32) (s : State),
    let g := s.reg r
    let fresh := g.config.inputs.filterMap (fun i => match s.point i with
      | none => none
      | some p => if p.runtime.band = .unknown ∨ p.runtime.band = .stale then none else p.runtime.filtered)
    let written (l : Nat) (u : State) := u.setChan g.config.actuator (desiring l (s.chan g.config.actuator))
    (timerDue s.timebase g.periodTimer = true →
      (g.state = .auto ∨ g.state = .failsafe → exec (.periodTimerExpiry r) s = .next (periodStarted r (evaluate true r s))) ∧
      (g.state = .override → exec (.periodTimerExpiry r) s = .next (periodStarted r (driven r s))) ∧
      (g.state = .disabled ∨ g.state = .handover ∨ g.state = .manual → exec (.periodTimerExpiry r) s = .next s)) ∧
    (fresh = [] →
      let moved := s.setReg r { g with state := .failsafe, output := some g.config.failsafe }
      evaluate true r s =
        written g.config.failsafe (if g.state = .failsafe then moved else raise .regState (some r.val) 2 .warn moved)) ∧
    (∀ x : Int, fresh ≠ [] → (g.config.combine = .max → x ∈ fresh ∧ ∀ y ∈ fresh, y ≤ x) →
      (g.config.combine = .mean → x = fresh.sum.tdiv fresh.length) →
      let latched := g.config.offAllowed && (match g.curve with
        | [] => g.offLatched
        | b :: _ => if g.offLatched then decide (x < b.input) else decide (x < b.input - g.config.offHyst))
      let level := slewOutput g.output (if latched then 0 else curveTarget g.curve x) g.config.slew g.config.ceiling
      let moved := s.setReg r { g with state := .auto, output := some level, offLatched := latched }
      evaluate true r s = written level (if g.state = .failsafe then raise .regState (some r.val) 1 .info moved else moved))

/-- R82, R84 to R86: WRITE_REGULATOR answers RANGE for an inadmissible configuration, an unoccupied input or feedback point and a feedback
point not of kind SPEED, STATE for a structural change of an enabled regulator, CONFLICT for a channel another configured regulator names;
else it stores the configuration, evaluates when participate is cleared in OVERRIDE, and enters OVERRIDE when it is set in AUTO or
FAILSAFE outside CLEAR. WRITE_CURVE stores an admissible curve and answers RANGE otherwise. -/
def Obligations.WriteRegulatorAndCurve : Prop :=
  ∀ (q : Request) (rest : List Request) (r : Fin 32) (n : Nat) (s : State), Ready q rest s → numAt q.payload 1 = r.val →
    let g := s.reg r
    (Carries q 32 n → 19 ≤ n → n ≤ 60 →
      (regulatorConfig? q.payload = none → exec .writeRegulator s = .next (refusedWith q .range (taken rest s))) ∧
      (∀ c, regulatorConfig? q.payload = some c →
        let usable := (∀ i ∈ c.inputs, s.point i ≠ none) ∧
          (∀ i, c.feedback = some i → ∃ p, s.point i = some p ∧ p.config.kind = .speed)
        let structural := c.inputs ≠ g.config.inputs ∨ c.combine ≠ g.config.combine ∨ c.actuator ≠ g.config.actuator ∨
          c.feedback ≠ g.config.feedback
        let named := ∃ o, o ≠ r ∧ (s.reg o).config.inputs ≠ [] ∧ (s.reg o).config.actuator = c.actuator
        let w := (taken rest s).setReg r { g with config := c }
        let ok (u : State) := exec .writeRegulator s = .next (answered q .ok [BitVec.ofNat 8 r.val] u)
        (¬ usable → exec .writeRegulator s = .next (refusedWith q .range (taken rest s))) ∧
        (usable → g.state ≠ .disabled → structural → exec .writeRegulator s = .next (refusedWith q .state (taken rest s))) ∧
        (usable → (g.state = .disabled ∨ ¬ structural) → named →
          exec .writeRegulator s = .next (refusedWith q .conflict (taken rest s))) ∧
        (usable → (g.state = .disabled ∨ ¬ structural) → ¬ named →
          (g.config.participate = true → c.participate = false → g.state = .override → ok (evaluate true r w)) ∧
          (g.config.participate = false → c.participate = true → g.state = .auto ∨ g.state = .failsafe → s.om.phase ≠ .clear →
            ok (driven r w)) ∧
          (g.config.participate = c.participate ∨ (c.participate = false ∧ g.state ≠ .override) ∨
            (c.participate = true ∧ ((g.state ≠ .auto ∧ g.state ≠ .failsafe) ∨ s.om.phase = .clear)) → ok w)))) ∧
    (Carries q 33 (2 + 4 * n) → n ≤ 14 →
      let curve := breakpointsOf (q.payload.drop 2)
      let valid := 2 ≤ curve.length ∧ curve.length ≤ 8 ∧ curve.Pairwise (fun a b => a.input < b.input) ∧ ∀ b ∈ curve, b.level ≤ 1000
      (valid →
        exec .writeCurve s =
          .next (answered q .ok [BitVec.ofNat 8 r.val] ((taken rest s).setReg r { g with curve := curve }))) ∧
      (¬ valid → exec .writeCurve s = .next (refusedWith q .range (taken rest s))))

/-- R88 to R90, R105, R143: ENABLE_REGULATOR answers STATE unless the regulator is DISABLED, configured, with a curve and a bound channel;
else it sets output and manual level absent and the latch false, begins control, and starts the window of an armed supervisor whose
feedback point is STALE. DISABLE_REGULATOR is taken in every state, resets the supervisor without a note, and in HANDOVER answers the
pending TAKE_MANUAL CANCELLED before its own reply. -/
def Obligations.EnableAndDisable : Prop :=
  ∀ (q : Request) (rest : List Request) (r : Fin 32) (s : State), Ready q rest s → numAt q.payload 1 = r.val →
    let g := s.reg r
    (Carries q 35 2 →
      let enableable := g.state = .disabled ∧ g.config.inputs ≠ [] ∧ 2 ≤ g.curve.length ∧ (s.chan g.config.actuator).config.node ≠ 0
      let u := controlled r ((taken rest s).setReg r { g with
        output := none, offLatched := false, manualLevel := none, handover := none })
      let starts := (∃ i p, g.config.feedback = some i ∧ s.point i = some p ∧ p.runtime.band = .stale) ∧
        Arming (s.chan g.config.actuator).acked ∧ s.sup r = { stalled := false, window := none }
      (¬ enableable → exec .enableRegulator s = .next (refusedWith q .state (taken rest s))) ∧
      (enableable → starts →
        exec .enableRegulator s = .next (answered q .ok [BitVec.ofNat 8 r.val] (u.setSup r
          { stalled := false, window := some (s.timebase + BitVec.ofNat 32 (g.config.stallWindow * 100)) }))) ∧
      (enableable → ¬ starts → exec .enableRegulator s = .next (answered q .ok [BitVec.ofNat 8 r.val] u))) ∧
    (Carries q 36 2 →
      let off (u : State) := stalledOut r ((u.setReg r { g with
        state := .disabled, periodTimer := none, manualLevel := none, handover := none }).setSup r { stalled := false, window := none })
      (g.state ≠ .handover → exec .disableRegulator s = .next (answered q .ok [BitVec.ofNat 8 r.val] (off (taken rest s)))) ∧
      (∀ ref, g.state = .handover → g.handover = some ref →
        exec .disableRegulator s =
          .next (answered q .ok [BitVec.ofNat 8 r.val] (off (cancelled ref (BitVec.ofNat 8 r.val) (taken rest s))))))

/-- R136 to R139, R142: TAKE_MANUAL and SET_MANUAL_LEVEL with a level above 1000 are refused with RANGE. TAKE_MANUAL is refused in DISABLED
(STATE) and HANDOVER (BUSY), sets the level in MANUAL, and under control takes the regulator into MANUAL at once, or, with the exchange
open, into HANDOVER while fewer than three entries are PENDING (else BUSY). By the sender's choice a read of the channel is taken before the
desired-level write that has just opened the exchange, and finds IDLE: MANUAL at once, the level coalescing into that exchange (R139; when
a read may come first is the model's choice, log entries 22 and 24). SET_MANUAL_LEVEL writes the level in MANUAL, only stores it in HANDOVER, and is refused with STATE
elsewhere. -/
def Obligations.ManualLevels : Prop :=
  ∀ (q : Request) (rest : List Request) (r : Fin 32) (s : State), Ready q rest s → numAt q.payload 1 = r.val →
    let g := s.reg r
    let k := s.chan g.config.actuator
    let l := num16At q.payload 2
    let data (faulted : Bool) : List Byte :=
      [BitVec.ofNat 8 r.val, byteAt q.payload 2, byteAt q.payload 3, if faulted then 1 else 0]
    let manual : State := ((taken rest s).setReg r { g with manualLevel := some l }).setChan g.config.actuator (desiring l k)
    let held := s.ru.recent.countP (fun e => e.status = .pending)
    let atOnce (u : State) := answered q .ok (data (isFaulted k)) ((u.setReg r { g with
      state := .manual, periodTimer := none, manualLevel := some l, handover := none }).setChan g.config.actuator (desiring l k))
    let first := s.turns.head? = some .readFirst ∧ OpenedTogether k
    (Carries q 37 4 →
      (1000 < l → exec .takeManual s = .next (refusedWith q .range (taken rest s))) ∧
      (l ≤ 1000 →
        (g.state = .disabled → exec .takeManual s = .next (refusedWith q .state (taken rest s))) ∧
        (g.state = .handover → exec .takeManual s = .next (refusedWith q .busy (taken rest s))) ∧
        (g.state = .manual → exec .takeManual s = .next (answered q .ok (data (isFaulted k)) manual)) ∧
        (g.state = .auto ∨ g.state = .failsafe ∨ g.state = .override →
          (¬ ExchangeOpen k → exec .takeManual s = .next (atOnce (taken rest s))) ∧
          (ExchangeOpen k → first → exec .takeManual s = .next (atOnce { taken rest s with turns := s.turns.tail })) ∧
          (ExchangeOpen k → ¬ first → held < 3 →
            exec .takeManual s = .next (deferredIn q ((taken rest s).setReg r { g with
              state := .handover, periodTimer := none, manualLevel := some l
              handover := some { src := q.src, seq := q.seq } }))) ∧
          (ExchangeOpen k → ¬ first → 3 ≤ held → exec .takeManual s = .next (refusedWith q .busy (taken rest s)))))) ∧
    (Carries q 38 4 →
      (1000 < l → exec .setManualLevel s = .next (refusedWith q .range (taken rest s))) ∧
      (l ≤ 1000 →
        (g.state = .manual → exec .setManualLevel s = .next (answered q .ok (data false) manual)) ∧
        (g.state = .handover →
          exec .setManualLevel s =
            .next (answered q .ok (data false) ((taken rest s).setReg r { g with manualLevel := some l }))) ∧
        (g.state ≠ .manual → g.state ≠ .handover → exec .setManualLevel s = .next (refusedWith q .state (taken rest s)))))

/-- R144: RELEASE_MANUAL in MANUAL and HANDOVER: in HANDOVER the pending TAKE_MANUAL is first answered CANCELLED; output takes the manual
level, which becomes absent, the latch is cleared, and control begins again. In any other state it is refused with STATE. -/
def Obligations.ReleaseManual : Prop :=
  ∀ (q : Request) (rest : List Request) (r : Fin 32) (s : State), Ready q rest s → Carries q 39 2 → numAt q.payload 1 = r.val →
    let g := s.reg r
    let released (u : State) := controlled r (u.setReg r { g with
      output := g.manualLevel, manualLevel := none, offLatched := false, handover := none })
    (g.state = .manual → exec .releaseManual s = .next (answered q .ok [BitVec.ofNat 8 r.val] (released (taken rest s)))) ∧
    (∀ ref, g.state = .handover → g.handover = some ref →
      exec .releaseManual s =
        .next (answered q .ok [BitVec.ofNat 8 r.val] (released (cancelled ref (BitVec.ofNat 8 r.val) (taken rest s))))) ∧
    (g.state ≠ .manual → g.state ≠ .handover → exec .releaseManual s = .next (refusedWith q .state (taken rest s)))

/-! ## Actuator Exchange (chapter 6) -/

/-- R9, R114, R121 to R123: a SET_ACK addressed to the part. One of another length, output, status or level, or that matches no bound
channel outside IDLE with its seq, gives ACKS_LATE only. OK ends the exchange in IDLE: acked takes the applied level, supervisors are told,
a faulted channel recovers with its note, the send check runs unless the applied level is not the one in flight, and the entry to IDLE is
reported. REJECT ends it in FAULT, with note and report as the channel stood. The model's choices are: the send check before the report
(log entry 7), the check after an OK in FAULT, where no level is in flight (log entry 8), and the last class of a port left without
candidates (log entry 5). -/
def Obligations.Acknowledgements : Prop :=
  (∀ (f : Frame) (e : Time) (s : State), ArrivedHere f e s → f.dest = s.ownAddress → f.type = 3 →
    exec .frameEnd s = .next (settleIdlePort (takeAck f.src f.seq f.payload (received e s)))) ∧
  (∀ (src seq : Byte) (p : List Byte) (s : State),
    (p.length ≠ 4 ∨ 16 ≤ numAt p 0 ∨ 2 ≤ numAt p 1 ∨ (numAt p 1 = 0 ∧ 1000 < num16At p 2) → takeAck src seq p s = signal .acksLate s) ∧
    ((∀ c, (s.chan c).config.node = src → (s.chan c).config.node ≠ 0 → (s.chan c).config.nodeChannel.val = numAt p 0 →
      (s.chan c).state ≠ .idle → (s.chan c).seq ≠ seq) → takeAck src seq p s = signal .acksLate s) ∧
    (∀ c, ChannelLaw s → p.length = 4 → (s.chan c).config.node = src → src ≠ 0 → (s.chan c).config.nodeChannel.val = numAt p 0 →
      (s.chan c).state ≠ .idle → (s.chan c).seq = seq →
      let k := s.chan c
      (∀ l, numAt p 1 = 0 → num16At p 2 = l → l ≤ 1000 →
        let s1 := ackedChanged c k.acked (s.setChan c { k with
          state := .idle, inFlight := none, transmitting := false, acked := some l, retries := 0, probing := false
          ackTimer := none, probeTimer := none })
        let s2 := if isFaulted k then faultedOut c (raise .actRecovered (some c.val) l .info s1) else s1
        let s3 := if k.inFlight = none ∨ k.inFlight = some l then s2.setChan c (checked (s2.chan c)) else s2
        takeAck src seq p s = reportEntry c false s3) ∧
      (numAt p 1 = 1 →
        let u := s.setChan c { k with
          state := .fault, inFlight := none, transmitting := false, retries := 0
          ackTimer := none, probeTimer := some (s.timebase + 5000) }
        (isFaulted k = false → takeAck src seq p s = reportEntry c true (faultedIn c (raise .actFault (some c.val) 2 .crit u))) ∧
        (isFaulted k = true → k.state ≠ .fault → takeAck src seq p s = reportEntry c true u) ∧
        (k.state = .fault → takeAck src seq p s = u))))

/-- R125 to R128: an ack timeout sends the SET again below the retry limit, with one SET_RETRY event, and else faults the channel with an
ACT_FAULT note of cause 1, its place in the alert record and a report; a probe's timeout returns it to FAULT with a report and no note.
The probe timer opens a probe with the next seq and the desired level. R114, R140: a report completes the handover of the regulator that
names the channel: MANUAL, the level written, the entry answered OK; it leaves any other regulator as it is. -/
def Obligations.ChannelTimersAndHandover : Prop :=
  (∀ (c : Fin 16) (s : State),
    let k := s.chan c
    let u := s.setChan c { k with
      state := .fault, inFlight := none, transmitting := false, retries := 0
      ackTimer := none, probeTimer := some (s.timebase + 5000) }
    (k.state = .awaitAck → timerDue s.timebase k.ackTimer = true →
      (k.probing = true → exec (.ackTimerExpiry c) s = .next (reportEntry c true u)) ∧
      (k.probing = false → k.retries < k.config.retryLimit →
        exec (.ackTimerExpiry c) s = .next (signal .setRetry (s.setChan c { k with
          state := .sending, transmitting := false, retries := k.retries + 1, ackTimer := none }))) ∧
      (k.probing = false → k.config.retryLimit ≤ k.retries →
        exec (.ackTimerExpiry c) s = .next (reportEntry c true (faultedIn c (raise .actFault (some c.val) 1 .crit u))))) ∧
    (k.state = .fault → timerDue s.timebase k.probeTimer = true →
      exec (.probeTimerExpiry c) s = .next (s.setChan c { k with
        state := .sending, seq := k.seq + 1, inFlight := k.desired, transmitting := false, retries := 0, probing := true
        probeTimer := none, justOpened := false }))) ∧
  (∀ (c : Fin 16) (faulted : Bool) (s : State),
    (∀ r, RegulatorLaw s → (s.reg r).config.inputs ≠ [] → (s.reg r).config.actuator = c →
      ((s.reg r).state ≠ .handover → reportEntry c faulted s = s) ∧
      (∀ ref l, (s.reg r).state = .handover → (s.reg r).handover = some ref → (s.reg r).manualLevel = some l →
        reportEntry c faulted s =
          completedEntry ref
            { src := ref.src, seq := ref.seq, code := 37, status := .ok
              data := [BitVec.ofNat 8 r.val] ++ natBytes l ++ [if faulted then 1 else 0] }
            ((s.setReg r { s.reg r with state := .manual, handover := none }).setChan c (desiring l (s.chan c))))) ∧
    ((∀ r, (s.reg r).config.inputs = [] ∨ (s.reg r).config.actuator ≠ c) → reportEntry c faulted s = s))

/-- R129, R130, R132: WRITE_ACTUATOR answers RANGE for an inadmissible configuration, STATE while a regulator not in DISABLED names the
channel or its exchange is open, DUPLICATE_KEY for a pair another channel has; else it stores it, and a change of node or output rebinds:
desired and acked absent, IDLE. A write that leaves an unbound channel unbound changes only ack_timeout and retry_limit. RESET_ACTUATOR
abandons any exchange, forgets acked, and runs the send check. Each tells the change of acked, the end of a fault and the entry to IDLE.
That the send check runs before the report, and that a handover's completion is answered before the RESET_ACTUATOR, is the model's choice
(log entry 7). -/
def Obligations.ChannelRequests : Prop :=
  ∀ (q : Request) (rest : List Request) (c : Fin 16) (s : State), Ready q rest s → numAt q.payload 1 = c.val →
    let k := s.chan c
    let told (after : Channel) :=
      let s1 := ackedChanged c k.acked ((taken rest s).setChan c after)
      if isFaulted k then faultedOut c s1 else s1
    let reported (u : State) := if k.state ≠ .idle then reportEntry c false u else u
    (Carries q 48 6 →
      (126 < numAt q.payload 2 ∨ 15 < numAt q.payload 3 ∨ numAt q.payload 4 = 0 ∨ 7 < numAt q.payload 5 →
        exec .writeActuator s = .next (refusedWith q .range (taken rest s))) ∧
      (∀ n : ChannelConfig, n.node = byteAt q.payload 2 → n.node.toNat ≤ 126 → n.nodeChannel.val = numAt q.payload 3 →
        n.ackTimeout = numAt q.payload 4 → 1 ≤ n.ackTimeout → n.retryLimit = numAt q.payload 5 → n.retryLimit ≤ 7 →
        let engaged := ∃ r, (s.reg r).state ≠ .disabled ∧ (s.reg r).config.inputs ≠ [] ∧ (s.reg r).config.actuator = c
        let busy := engaged ∨ k.state = .sending ∨ k.state = .awaitAck
        let pair := n.node ≠ 0 ∧ ∃ d, d ≠ c ∧ (s.chan d).config.node = n.node ∧ (s.chan d).config.nodeChannel = n.nodeChannel
        (busy → exec .writeActuator s = .next (refusedWith q .state (taken rest s))) ∧
        (¬ busy → pair → exec .writeActuator s = .next (refusedWith q .duplicateKey (taken rest s))) ∧
        (¬ busy → n.node = 0 → k.config.node = 0 →
          exec .writeActuator s =
            .next (answered q .ok [BitVec.ofNat 8 c.val] ((taken rest s).setChan c { k with
              config := { k.config with ackTimeout := n.ackTimeout, retryLimit := n.retryLimit } }))) ∧
        (¬ busy → ¬ pair → n.node = k.config.node → n.nodeChannel = k.config.nodeChannel →
          exec .writeActuator s =
            .next (answered q .ok [BitVec.ofNat 8 c.val] ((taken rest s).setChan c { k with config := n }))) ∧
        (¬ busy → ¬ pair → n.node ≠ k.config.node ∨ (n.node ≠ 0 ∧ n.nodeChannel ≠ k.config.nodeChannel) →
          exec .writeActuator s =
            .next (answered q .ok [BitVec.ofNat 8 c.val] (reported (told { k with
              config := n, state := .idle, desired := none, acked := none, retries := 0, probing := false
              probeTimer := none })))))) ∧
    (Carries q 50 2 →
      let u := told { k with
        state := .idle, inFlight := none, transmitting := false, acked := none, retries := 0, probing := false
        ackTimer := none, probeTimer := none }
      exec .resetActuator s = .next (answered q .ok [BitVec.ofNat 8 c.val] (reported (u.setChan c (checked (u.chan c))))))

/-! ## Note Unit and Traffic Counters (chapters 9 and 10) -/

/-- R162, R163, R165, R166: a raised note is merged into the unsent note alike to it, else appended while the queue holds fewer than 32;
at a full queue it takes the place of the oldest less severe unsent note, else it is lost itself; either loss adds to the lost count (at
most 255) and gives one NOTES_EVICTED event. -/
def Obligations.RaisedNotes : Prop :=
  ∀ (kind : NoteKind) (subject : Option Nat) (value : Int) (severity : Severity) (s : State),
    let n : Note := { kind := kind, subject := subject, value := value, severity := severity, timestamp := s.timebase }
    let alike (m : Note) := m.kind = kind ∧ m.subject = subject
    let lost := min 255 (s.nu.lost + 1)
    let raised := raise kind subject value severity s
    ((∃ m ∈ s.nu.unsent, alike m) →
      raised = { s with nu := { s.nu with unsent := s.nu.unsent.map (fun m =>
        if alike m then
          { m with value := value, timestamp := s.timebase
                   severity := if m.severity.code < severity.code then severity else m.severity }
        else m) } }) ∧
    ((∀ m ∈ s.nu.unsent, ¬ alike m) → s.nu.inFlight.length + s.nu.unsent.length < 32 →
      raised = { s with nu := { s.nu with unsent := s.nu.unsent ++ [n] } }) ∧
    (∀ before m after, (∀ m ∈ s.nu.unsent, ¬ alike m) → 32 ≤ s.nu.inFlight.length + s.nu.unsent.length →
      s.nu.unsent = before ++ m :: after → (∀ x ∈ before, severity.code ≤ x.severity.code) → m.severity.code < severity.code →
      raised = signal .notesEvicted { s with nu := { s.nu with unsent := before ++ after ++ [n], lost := lost } }) ∧
    ((∀ m ∈ s.nu.unsent, ¬ alike m) → 32 ≤ s.nu.inFlight.length + s.nu.unsent.length →
      (∀ x ∈ s.nu.unsent, severity.code ≤ x.severity.code) →
      raised = signal .notesEvicted { s with nu := { s.nu with lost := lost } })

/-- R187, R188: an event adds 1, modulo 2^32, to each counter that selects its class, unless the counters are frozen. The step from
2147483647 to 2147483648 raises a COUNTER note when the counter asks for it and freezes all four when it asks for that. R189: WRITE_COUNTERS
replaces all four and thaws them, or is refused with RANGE. -/
def Obligations.CountedEvents : Prop :=
  (∀ (c : EventClass) (s : State),
    let after (frozen : Bool) : State := { s with counters := {
      counter := s.counters.counter.map (fun k => if k.selector = some c then { k with value := k.value + 1 } else k)
      frozen := frozen } }
    let overflows (i : Fin 4) := s.counters.counter[i].selector = some c ∧ s.counters.counter[i].value = 2147483647
    (s.counters.frozen = true → signal c s = s) ∧
    (s.counters.frozen = false → (∀ i, ¬ overflows i) → signal c s = after false) ∧
    (∀ i, s.counters.frozen = false → overflows i → (∀ j, j ≠ i → ¬ overflows j) →
      (s.counters.counter[i].noteOnOverflow = false → signal c s = after (s.counters.counter[i].freezeOnOverflow)) ∧
      (s.counters.counter[i].noteOnOverflow = true → s.nu.inFlight.length + s.nu.unsent.length < 32 →
        signal c s = raise .counter (some i.val) c.code .info (after (s.counters.counter[i].freezeOnOverflow))))) ∧
  (∀ (q : Request) (rest : List Request) (s : State), Ready q rest s → Carries q 66 25 →
    (counterEntries? q.payload = none → exec .writeCounters s = .next (refusedWith q .range (taken rest s))) ∧
    (∀ v, counterEntries? q.payload = some v →
      exec .writeCounters s = .next (answered q .ok [] { taken rest s with counters := { counter := v, frozen := false } })))

/-- R170, R171: the resend timer's expiry stops it and makes every note in flight due, behind those that already are. ACK_NOTES removes the
note in flight with the sequence and those ahead of it, from the due set too, and starts the timer again while a note remains; without
such a note it is refused with RANGE. -/
def Obligations.ResendAndAcknowledge : Prop :=
  (∀ s : State, timerDue s.timebase s.nu.resendTimer = true →
    exec .resendTimerExpiry s = .next { s with nu := { s.nu with
      resendTimer := none
      due := s.nu.due ++ (s.nu.inFlight.map (·.sequence)).filter (fun x => x ∉ s.nu.due) } }) ∧
  (∀ (q : Request) (rest : List Request) (s : State), Ready q rest s → Carries q 64 3 →
    let x := (byteAt q.payload 1 ++ byteAt q.payload 2 : BitVec 16)
    ((∀ n ∈ s.nu.inFlight, n.sequence ≠ x) → exec .ackNotes s = .next (refusedWith q .range (taken rest s))) ∧
    (∀ ahead n behind, s.nu.inFlight = ahead ++ n :: behind → n.sequence = x → (∀ m ∈ ahead, m.sequence ≠ x) →
      exec .ackNotes s =
        .next (answered q .ok [BitVec.ofNat 8 (ahead.length + 1), BitVec.ofNat 8 behind.length] { taken rest s with nu := { s.nu with
          inFlight := behind
          due := s.nu.due.filter (fun y => behind.any (fun m => m.sequence = y))
          resendTimer := if behind = [] then none else some (s.timebase + 1000) } })))

/-- R156, R157, R173, R174: BIND binds an unbound part to its sender and repeats for the manager; UNBIND by the manager makes the binding
absent and reverts every note in flight to unsent in its place, alike notes merged (`mergeAlike`: each into the earliest alike to it, which
takes the value and the timestamp of the latest and the highest severity), lost counts added back (at most 255), due set and timer
emptied; while unbound it changes nothing. From another node each is refused with NOT_MANAGER. -/
def Obligations.BindAndUnbind : Prop :=
  ∀ (q : Request) (rest : List Request) (s : State), NewRequest q rest s →
    (Carries q 3 1 →
      (s.ru.manager = none →
        exec .bind s =
          .next (answered q .ok [q.src] { taken rest s with ru := { (taken rest s).ru with manager := some q.src } })) ∧
      (s.ru.manager = some q.src → exec .bind s = .next (answered q .ok [q.src] (taken rest s))) ∧
      (∀ m, s.ru.manager = some m → m ≠ q.src → exec .bind s = .next (refusedWith q .notManager (taken rest s)))) ∧
    (Carries q 4 1 →
      (s.ru.manager = none → exec .unbind s = .next (answered q .ok [] (taken rest s))) ∧
      (s.ru.manager = some q.src →
        let reverted := s.nu.inFlight.map (·.note) ++ s.nu.unsent
        let unsent := mergeAlike reverted
        let alike (a b : Note) := a.kind = b.kind ∧ a.subject = b.subject
        exec .unbind s = .next (answered q .ok [] { taken rest s with
          ru := { (taken rest s).ru with manager := none }
          nu := { s.nu with
            inFlight := [], unsent := unsent, due := [], resendTimer := none
            lost := min 255 (s.nu.lost + (s.nu.inFlight.map (·.lost)).sum) } }) ∧
        unsent.Pairwise (fun a b => ¬ alike a b) ∧
        (reverted.Pairwise (fun a b => ¬ alike a b) → unsent = reverted) ∧
        (∀ n ∈ reverted, ∃ m ∈ unsent, alike m n ∧ n.severity.code ≤ m.severity.code) ∧
        (∀ m ∈ unsent, ∃ n ∈ reverted, alike m n ∧ n.severity = m.severity) ∧
        (∀ before n after, reverted = before ++ n :: after → (∀ x ∈ after, ¬ alike x n) →
          ∃ m ∈ unsent, alike m n ∧ m.value = n.value ∧ m.timestamp = n.timestamp) ∧
        (∀ before n m after, reverted = before ++ n :: after → (∀ x ∈ before, ¬ alike x n) → m ∈ unsent → alike m n →
          ∃ ahead behind, unsent = ahead ++ m :: behind ∧ ∀ x, x ∈ ahead → ∃ y ∈ before, alike y x)) ∧
      (∀ m, s.ru.manager = some m → m ≠ q.src → exec .unbind s = .next (refusedWith q .notManager (taken rest s))))

/-! ## RESTART, CLEAR_ALL and the sweep (chapters 8 and 10) -/

/-- R43, R92, R111, R134, R160, R178, R186: what RESTART does to every block; R42, R91, R110, R133, R160, R177, R186, R191: CLEAR_ALL. Each
discarded request gives a REQ_DROPPED event, counted after the blocks are reset (log entry 11); the Chain Interface, the binding, the hold
time and the Timebase are kept; each is answered with the Timebase. -/
def Obligations.RestartAndClearAll : Prop :=
  ∀ (q : Request) (rest : List Request) (s : State), Ready q rest s →
    let emptied : RequestUnit := { fifo := [], slot := none, ready := [], recent := [], execution := none, manager := s.ru.manager }
    let calm : OverrideMonitor := { critical := [], phase := .clear, holdTimer := none, holdTime := s.om.holdTime, startTime := none }
    let restarted (k : Channel) : Channel :=
      { k with state := .idle, inFlight := none, transmitting := false, acked := none, retries := 0, probing := false
               ackTimer := none, probeTimer := none }
    (Carries q 5 1 → RegulatorLaw s →
      ∃ u, exec .restart s = .next (answered q .ok (bytes32 s.timebase) (signalTimes .reqDropped rest.length u)) ∧
        u.timebase = s.timebase ∧ u.ci = s.ci ∧ u.pending = s.pending ∧ u.turns = s.turns ∧ u.counters = s.counters ∧ u.sweep = none ∧ u.ru = emptied ∧
        u.om = calm ∧ (∀ r, u.sup r = { stalled := false, window := none }) ∧
        (∀ i, u.point i = (s.point i).map (fun p =>
          { config := p.config, runtime := freshRuntime, staleTimer := staleFrom s.timebase p.config.maxAge
            watch := p.watch.map invalidated })) ∧
        u.nu = { inFlight := [], nextSequence := s.nu.nextSequence, lost := 0, resendTimer := none, due := []
                 unsent := [{ kind := .restarted, subject := none, value := (s.nu.inFlight.length + s.nu.unsent.length : Nat)
                              severity := .info, timestamp := s.timebase }]
                 alert := { override := false, faulted := [], stalled := [] } } ∧
        (∀ r, let g := s.reg r
          let k := restarted (s.chan g.config.actuator)
          (g.state = .disabled → u.reg r = { g with offLatched := false }) ∧
          (g.state = .manual ∨ g.state = .handover → u.reg r = { g with state := .manual, offLatched := false, handover := none } ∧
            ∀ l, g.manualLevel = some l → u.chan g.config.actuator = desiring l k) ∧
          (g.state = .auto ∨ g.state = .failsafe ∨ g.state = .override →
            u.reg r = { g with
              state := .failsafe, output := some g.config.failsafe, offLatched := false
              periodTimer := some (s.timebase + BitVec.ofNat 32 (g.config.period * 100)) } ∧
            u.chan g.config.actuator = desiring g.config.failsafe k)) ∧
        (∀ c, (∀ r, (s.reg r).config.actuator = c → (s.reg r).state = .disabled) → u.chan c = restarted (s.chan c))) ∧
    (Carries q 6 1 →
      exec .clearAll s = .next (answered q .ok (bytes32 s.timebase) (signalTimes .reqDropped rest.length { State.cold s.ci.straps with
        timebase := s.timebase, ci := s.ci, ru := emptied, om := calm, pending := s.pending, turns := s.turns })))

/-- R179 to R183, R185: SWEEP is refused with RANGE for an inadmissible range or action set and with BUSY while a sweep is in progress or
three entries are PENDING; else it is deferred. A step visits up to 16 indices from next: STATS clears count, min and max, REBASE the rest
of the runtime with an invalidated watch and a new staleness start; then the timer starts again, or the sweep ends and its entry is answered OK
with the number of occupied records visited. A step without REBASE changes nothing else. -/
def Obligations.Sweeping : Prop :=
  (∀ (q : Request) (rest : List Request) (s : State), Ready q rest s → Carries q 65 6 →
    let first := num16At q.payload 1
    let last := num16At q.payload 3
    let actions := numAt q.payload 5
    let held := s.ru.recent.countP (fun e => e.status = .pending)
    let valid := first ≤ last ∧ last ≤ 255 ∧ 1 ≤ actions ∧ actions ≤ 3
    let begun : Sweep :=
      { first := first, last := last, stats := decide (actions ≠ 2), rebase := decide (actions ≠ 1), next := first, visited := 0
        entry := { src := q.src, seq := q.seq }, stepTimer := some (s.timebase + 1) }
    (¬ valid → exec .sweep s = .next (refusedWith q .range (taken rest s))) ∧
    (valid → s.sweep ≠ none ∨ 3 ≤ held → exec .sweep s = .next (refusedWith q .busy (taken rest s))) ∧
    (valid → s.sweep = none → held < 3 →
      exec .sweep s = .next (deferredIn q { taken rest s with sweep := some begun }))) ∧
  (∀ (d : Sweep) (s : State), s.sweep = some d → timerDue s.timebase d.stepTimer = true → SweepLaw s →
    let stop := min (d.next + 16) (d.last + 1)
    let reached (i : Fin 256) : Bool := d.next ≤ i.val && i.val < stop
    let seen := d.visited + (List.finRange 256).countP (fun i => reached i && (s.point i).isSome)
    let act (p : Point) : Point :=
      let cleared := if d.stats then { p with runtime := { p.runtime with count := 0, min := none, max := none } } else p
      if d.rebase then
        { cleared with
          runtime := { freshRuntime with
            count := cleared.runtime.count, min := cleared.runtime.min, max := cleared.runtime.max }
          watch := p.watch.map invalidated, staleTimer := staleFrom s.timebase p.config.maxAge }
      else cleared
    let points : Vector (Option Point) 256 := Vector.ofFn (fun i => if reached i then (s.point i).map act else s.point i)
    let reply : Reply :=
      { src := d.entry.src, seq := d.entry.seq, code := 65, status := .ok, data := natBytes seen }
    ∃ t, exec .sweepStepExpiry s = .next t ∧
      t.points = points ∧
      (stop ≤ d.last → t.sweep = some { d with next := stop, visited := seen, stepTimer := some (s.timebase + 1) } ∧ t.ru = s.ru) ∧
      (d.last < stop → t.sweep = none ∧ t.ru = (completedEntry d.entry reply s).ru) ∧
      (d.rebase = false → t = { s with points := points, sweep := t.sweep, ru := t.ru }) ∧
      t.timebase = s.timebase ∧ t.ci = s.ci ∧ t.sups = s.sups ∧ t.pending = s.pending ∧ t.turns = s.turns ∧
      (d.rebase = true → OverrideLaw s → ∀ i, i ∈ t.om.critical ↔ i ∈ s.om.critical ∧ reached i = false))

/-- R34, R84, R86, R189, R193 and sections 11.5 and 11.6: what the part writes it also reads. The bytes of an admissible point or regulator
configuration, of breakpoints and of four counters, laid out as section 11.6 gives them behind a request's code, are read back as they
were; a point or regulator configuration is read exactly from the payloads whose fields stand in their ranges, and counter entries
exactly from those with selectors of at most 15 and flags of at most 3; what is read is admissible. -/
def Obligations.ConfigurationsReadBack : Prop :=
  (∀ (c : PointConfig) (i : Byte), c.InRange → valueInRange c.thresholds.lowCrit → valueInRange c.thresholds.lowWarn →
    valueInRange c.thresholds.highWarn → valueInRange c.thresholds.highCrit →
    c.bytes = pointLayout c ∧ pointConfig? ([16, i] ++ pointLayout c) = some c) ∧
  (∀ (p : List Byte) (c : PointConfig), pointConfig? p = some c → c.InRange) ∧
  (∀ p : List Byte,
    let present (bit at_ : Nat) : Option Int := if (byteAt p 10).getLsbD bit then some (valueAt p at_) else none
    (pointConfig? p ≠ none ↔
      1 ≤ numAt p 2 ∧ numAt p 2 ≤ 126 ∧ numAt p 3 ≤ 15 ∧ numAt p 4 ≤ 3 ∧ numAt p 9 ≤ 7 ∧ numAt p 10 ≤ 31 ∧
      ((byteAt p 10).getLsbD 4 = true → 1 ≤ num16At p 20 ∧ num16At p 20 ≤ 600) ∧
      ([present 0 11, present 1 13, present 2 15, present 3 17].filterMap id).Pairwise (· < ·) ∧
      numAt p 22 ≤ 1 ∧ numAt p 23 ≤ 1 ∧ numAt p 24 ≤ 2 ∧ num16At p 25 ≤ 32767 ∧ 1 ≤ numAt p 27)) ∧
  (∀ (c : RegulatorConfig) (i : Byte), c.InRange → valueInRange (some c.stallFloor) →
    regulatorConfig? ([32, i] ++ regulatorLayout c) = some c) ∧
  (∀ (p : List Byte) (c : RegulatorConfig), regulatorConfig? p = some c → c.InRange) ∧
  (∀ p : List Byte, regulatorConfig? p ≠ none ↔
    numAt p 2 ≤ 1 ∧ numAt p 3 ≤ 1 ∧ 1 ≤ num16At p 5 ∧ num16At p 5 ≤ 1000 ∧ num16At p 7 ≤ num16At p 5 ∧ 1 ≤ num16At p 9 ∧
    num16At p 9 ≤ 1000 ∧ 1 ≤ numAt p 11 ∧ numAt p 12 ≤ 15 ∧ numAt p 13 ≤ 1 ∧ 1 ≤ numAt p 17 ∧ numAt p 17 ≤ 100 ∧ numAt p 18 ≤ 1 ∧
    20 ≤ p.length ∧ p.length ≤ 25 ∧ (p.drop 19).Nodup) ∧
  (∀ c : List Breakpoint, (∀ b ∈ c, -32768 ≤ b.input ∧ b.input ≤ 32767 ∧ b.level ≤ 1000) →
    breakpointsOf (c.flatMap (fun b => fieldValue b.input ++ field16 b.level)) = c) ∧
  (∀ v : Vector Counter 4, counterEntries? (66 :: v.toList.flatMap counterLayout) = some v) ∧
  (∀ p : List Byte, counterEntries? p ≠ none ↔ ∀ k : Fin 4, numAt p (1 + 6 * k.val) ≤ 15 ∧ numAt p (2 + 6 * k.val) ≤ 3)

end
end

