-- ==== Sys2Proof/Laws/State.lean ====
section
/-! SUPPORT. What each update of the state leaves in each field and in each record of the tables, true by `rfl` but for the record written
itself. With these no proof unfolds a record update. -/

namespace Sys2Proof.Machine

variable (s : State)

/-! ## withTimebase -/

@[simp] theorem State.withTimebase_timebase (x : Time) : (s.withTimebase x).timebase = x := rfl
@[simp] theorem State.withTimebase_ci (x : Time) : (s.withTimebase x).ci = s.ci := rfl
@[simp] theorem State.withTimebase_points (x : Time) : (s.withTimebase x).points = s.points := rfl
@[simp] theorem State.withTimebase_regs (x : Time) : (s.withTimebase x).regs = s.regs := rfl
@[simp] theorem State.withTimebase_om (x : Time) : (s.withTimebase x).om = s.om := rfl
@[simp] theorem State.withTimebase_sups (x : Time) : (s.withTimebase x).sups = s.sups := rfl
@[simp] theorem State.withTimebase_chans (x : Time) : (s.withTimebase x).chans = s.chans := rfl
@[simp] theorem State.withTimebase_ru (x : Time) : (s.withTimebase x).ru = s.ru := rfl
@[simp] theorem State.withTimebase_nu (x : Time) : (s.withTimebase x).nu = s.nu := rfl
@[simp] theorem State.withTimebase_sweep (x : Time) : (s.withTimebase x).sweep = s.sweep := rfl
@[simp] theorem State.withTimebase_counters (x : Time) : (s.withTimebase x).counters = s.counters := rfl
@[simp] theorem State.withTimebase_pending (x : Time) : (s.withTimebase x).pending = s.pending := rfl
@[simp] theorem State.withTimebase_turns (x : Time) : (s.withTimebase x).turns = s.turns := rfl
@[simp] theorem State.withTimebase_point (x : Time) (i : Fin 256) : (s.withTimebase x).point i = s.point i := rfl
@[simp] theorem State.withTimebase_reg (x : Time) (i : Fin 32) : (s.withTimebase x).reg i = s.reg i := rfl
@[simp] theorem State.withTimebase_sup (x : Time) (i : Fin 32) : (s.withTimebase x).sup i = s.sup i := rfl
@[simp] theorem State.withTimebase_chan (x : Time) (i : Fin 16) : (s.withTimebase x).chan i = s.chan i := rfl

/-! ## withCi -/

@[simp] theorem State.withCi_timebase (x : ChainInterface) : (s.withCi x).timebase = s.timebase := rfl
@[simp] theorem State.withCi_ci (x : ChainInterface) : (s.withCi x).ci = x := rfl
@[simp] theorem State.withCi_points (x : ChainInterface) : (s.withCi x).points = s.points := rfl
@[simp] theorem State.withCi_regs (x : ChainInterface) : (s.withCi x).regs = s.regs := rfl
@[simp] theorem State.withCi_om (x : ChainInterface) : (s.withCi x).om = s.om := rfl
@[simp] theorem State.withCi_sups (x : ChainInterface) : (s.withCi x).sups = s.sups := rfl
@[simp] theorem State.withCi_chans (x : ChainInterface) : (s.withCi x).chans = s.chans := rfl
@[simp] theorem State.withCi_ru (x : ChainInterface) : (s.withCi x).ru = s.ru := rfl
@[simp] theorem State.withCi_nu (x : ChainInterface) : (s.withCi x).nu = s.nu := rfl
@[simp] theorem State.withCi_sweep (x : ChainInterface) : (s.withCi x).sweep = s.sweep := rfl
@[simp] theorem State.withCi_counters (x : ChainInterface) : (s.withCi x).counters = s.counters := rfl
@[simp] theorem State.withCi_pending (x : ChainInterface) : (s.withCi x).pending = s.pending := rfl
@[simp] theorem State.withCi_turns (x : ChainInterface) : (s.withCi x).turns = s.turns := rfl
@[simp] theorem State.withCi_point (x : ChainInterface) (i : Fin 256) : (s.withCi x).point i = s.point i := rfl
@[simp] theorem State.withCi_reg (x : ChainInterface) (i : Fin 32) : (s.withCi x).reg i = s.reg i := rfl
@[simp] theorem State.withCi_sup (x : ChainInterface) (i : Fin 32) : (s.withCi x).sup i = s.sup i := rfl
@[simp] theorem State.withCi_chan (x : ChainInterface) (i : Fin 16) : (s.withCi x).chan i = s.chan i := rfl

/-! ## withPoints -/

@[simp] theorem State.withPoints_timebase (x : Vector (Option Point) 256) : (s.withPoints x).timebase = s.timebase := rfl
@[simp] theorem State.withPoints_ci (x : Vector (Option Point) 256) : (s.withPoints x).ci = s.ci := rfl
@[simp] theorem State.withPoints_points (x : Vector (Option Point) 256) : (s.withPoints x).points = x := rfl
@[simp] theorem State.withPoints_regs (x : Vector (Option Point) 256) : (s.withPoints x).regs = s.regs := rfl
@[simp] theorem State.withPoints_om (x : Vector (Option Point) 256) : (s.withPoints x).om = s.om := rfl
@[simp] theorem State.withPoints_sups (x : Vector (Option Point) 256) : (s.withPoints x).sups = s.sups := rfl
@[simp] theorem State.withPoints_chans (x : Vector (Option Point) 256) : (s.withPoints x).chans = s.chans := rfl
@[simp] theorem State.withPoints_ru (x : Vector (Option Point) 256) : (s.withPoints x).ru = s.ru := rfl
@[simp] theorem State.withPoints_nu (x : Vector (Option Point) 256) : (s.withPoints x).nu = s.nu := rfl
@[simp] theorem State.withPoints_sweep (x : Vector (Option Point) 256) : (s.withPoints x).sweep = s.sweep := rfl
@[simp] theorem State.withPoints_counters (x : Vector (Option Point) 256) : (s.withPoints x).counters = s.counters := rfl
@[simp] theorem State.withPoints_pending (x : Vector (Option Point) 256) : (s.withPoints x).pending = s.pending := rfl
@[simp] theorem State.withPoints_turns (x : Vector (Option Point) 256) : (s.withPoints x).turns = s.turns := rfl
@[simp] theorem State.withPoints_point (x : Vector (Option Point) 256) (i : Fin 256) : (s.withPoints x).point i = x[i] := rfl
@[simp] theorem State.withPoints_reg (x : Vector (Option Point) 256) (i : Fin 32) : (s.withPoints x).reg i = s.reg i := rfl
@[simp] theorem State.withPoints_sup (x : Vector (Option Point) 256) (i : Fin 32) : (s.withPoints x).sup i = s.sup i := rfl
@[simp] theorem State.withPoints_chan (x : Vector (Option Point) 256) (i : Fin 16) : (s.withPoints x).chan i = s.chan i := rfl

/-! ## withRegs -/

@[simp] theorem State.withRegs_timebase (x : Vector Regulator 32) : (s.withRegs x).timebase = s.timebase := rfl
@[simp] theorem State.withRegs_ci (x : Vector Regulator 32) : (s.withRegs x).ci = s.ci := rfl
@[simp] theorem State.withRegs_points (x : Vector Regulator 32) : (s.withRegs x).points = s.points := rfl
@[simp] theorem State.withRegs_regs (x : Vector Regulator 32) : (s.withRegs x).regs = x := rfl
@[simp] theorem State.withRegs_om (x : Vector Regulator 32) : (s.withRegs x).om = s.om := rfl
@[simp] theorem State.withRegs_sups (x : Vector Regulator 32) : (s.withRegs x).sups = s.sups := rfl
@[simp] theorem State.withRegs_chans (x : Vector Regulator 32) : (s.withRegs x).chans = s.chans := rfl
@[simp] theorem State.withRegs_ru (x : Vector Regulator 32) : (s.withRegs x).ru = s.ru := rfl
@[simp] theorem State.withRegs_nu (x : Vector Regulator 32) : (s.withRegs x).nu = s.nu := rfl
@[simp] theorem State.withRegs_sweep (x : Vector Regulator 32) : (s.withRegs x).sweep = s.sweep := rfl
@[simp] theorem State.withRegs_counters (x : Vector Regulator 32) : (s.withRegs x).counters = s.counters := rfl
@[simp] theorem State.withRegs_pending (x : Vector Regulator 32) : (s.withRegs x).pending = s.pending := rfl
@[simp] theorem State.withRegs_turns (x : Vector Regulator 32) : (s.withRegs x).turns = s.turns := rfl
@[simp] theorem State.withRegs_point (x : Vector Regulator 32) (i : Fin 256) : (s.withRegs x).point i = s.point i := rfl
@[simp] theorem State.withRegs_reg (x : Vector Regulator 32) (i : Fin 32) : (s.withRegs x).reg i = x[i] := rfl
@[simp] theorem State.withRegs_sup (x : Vector Regulator 32) (i : Fin 32) : (s.withRegs x).sup i = s.sup i := rfl
@[simp] theorem State.withRegs_chan (x : Vector Regulator 32) (i : Fin 16) : (s.withRegs x).chan i = s.chan i := rfl

/-! ## withOm -/

@[simp] theorem State.withOm_timebase (x : OverrideMonitor) : (s.withOm x).timebase = s.timebase := rfl
@[simp] theorem State.withOm_ci (x : OverrideMonitor) : (s.withOm x).ci = s.ci := rfl
@[simp] theorem State.withOm_points (x : OverrideMonitor) : (s.withOm x).points = s.points := rfl
@[simp] theorem State.withOm_regs (x : OverrideMonitor) : (s.withOm x).regs = s.regs := rfl
@[simp] theorem State.withOm_om (x : OverrideMonitor) : (s.withOm x).om = x := rfl
@[simp] theorem State.withOm_sups (x : OverrideMonitor) : (s.withOm x).sups = s.sups := rfl
@[simp] theorem State.withOm_chans (x : OverrideMonitor) : (s.withOm x).chans = s.chans := rfl
@[simp] theorem State.withOm_ru (x : OverrideMonitor) : (s.withOm x).ru = s.ru := rfl
@[simp] theorem State.withOm_nu (x : OverrideMonitor) : (s.withOm x).nu = s.nu := rfl
@[simp] theorem State.withOm_sweep (x : OverrideMonitor) : (s.withOm x).sweep = s.sweep := rfl
@[simp] theorem State.withOm_counters (x : OverrideMonitor) : (s.withOm x).counters = s.counters := rfl
@[simp] theorem State.withOm_pending (x : OverrideMonitor) : (s.withOm x).pending = s.pending := rfl
@[simp] theorem State.withOm_turns (x : OverrideMonitor) : (s.withOm x).turns = s.turns := rfl
@[simp] theorem State.withOm_point (x : OverrideMonitor) (i : Fin 256) : (s.withOm x).point i = s.point i := rfl
@[simp] theorem State.withOm_reg (x : OverrideMonitor) (i : Fin 32) : (s.withOm x).reg i = s.reg i := rfl
@[simp] theorem State.withOm_sup (x : OverrideMonitor) (i : Fin 32) : (s.withOm x).sup i = s.sup i := rfl
@[simp] theorem State.withOm_chan (x : OverrideMonitor) (i : Fin 16) : (s.withOm x).chan i = s.chan i := rfl

/-! ## withSups -/

@[simp] theorem State.withSups_timebase (x : Vector Supervisor 32) : (s.withSups x).timebase = s.timebase := rfl
@[simp] theorem State.withSups_ci (x : Vector Supervisor 32) : (s.withSups x).ci = s.ci := rfl
@[simp] theorem State.withSups_points (x : Vector Supervisor 32) : (s.withSups x).points = s.points := rfl
@[simp] theorem State.withSups_regs (x : Vector Supervisor 32) : (s.withSups x).regs = s.regs := rfl
@[simp] theorem State.withSups_om (x : Vector Supervisor 32) : (s.withSups x).om = s.om := rfl
@[simp] theorem State.withSups_sups (x : Vector Supervisor 32) : (s.withSups x).sups = x := rfl
@[simp] theorem State.withSups_chans (x : Vector Supervisor 32) : (s.withSups x).chans = s.chans := rfl
@[simp] theorem State.withSups_ru (x : Vector Supervisor 32) : (s.withSups x).ru = s.ru := rfl
@[simp] theorem State.withSups_nu (x : Vector Supervisor 32) : (s.withSups x).nu = s.nu := rfl
@[simp] theorem State.withSups_sweep (x : Vector Supervisor 32) : (s.withSups x).sweep = s.sweep := rfl
@[simp] theorem State.withSups_counters (x : Vector Supervisor 32) : (s.withSups x).counters = s.counters := rfl
@[simp] theorem State.withSups_pending (x : Vector Supervisor 32) : (s.withSups x).pending = s.pending := rfl
@[simp] theorem State.withSups_turns (x : Vector Supervisor 32) : (s.withSups x).turns = s.turns := rfl
@[simp] theorem State.withSups_point (x : Vector Supervisor 32) (i : Fin 256) : (s.withSups x).point i = s.point i := rfl
@[simp] theorem State.withSups_reg (x : Vector Supervisor 32) (i : Fin 32) : (s.withSups x).reg i = s.reg i := rfl
@[simp] theorem State.withSups_sup (x : Vector Supervisor 32) (i : Fin 32) : (s.withSups x).sup i = x[i] := rfl
@[simp] theorem State.withSups_chan (x : Vector Supervisor 32) (i : Fin 16) : (s.withSups x).chan i = s.chan i := rfl

/-! ## withChans -/

@[simp] theorem State.withChans_timebase (x : Vector Channel 16) : (s.withChans x).timebase = s.timebase := rfl
@[simp] theorem State.withChans_ci (x : Vector Channel 16) : (s.withChans x).ci = s.ci := rfl
@[simp] theorem State.withChans_points (x : Vector Channel 16) : (s.withChans x).points = s.points := rfl
@[simp] theorem State.withChans_regs (x : Vector Channel 16) : (s.withChans x).regs = s.regs := rfl
@[simp] theorem State.withChans_om (x : Vector Channel 16) : (s.withChans x).om = s.om := rfl
@[simp] theorem State.withChans_sups (x : Vector Channel 16) : (s.withChans x).sups = s.sups := rfl
@[simp] theorem State.withChans_chans (x : Vector Channel 16) : (s.withChans x).chans = x := rfl
@[simp] theorem State.withChans_ru (x : Vector Channel 16) : (s.withChans x).ru = s.ru := rfl
@[simp] theorem State.withChans_nu (x : Vector Channel 16) : (s.withChans x).nu = s.nu := rfl
@[simp] theorem State.withChans_sweep (x : Vector Channel 16) : (s.withChans x).sweep = s.sweep := rfl
@[simp] theorem State.withChans_counters (x : Vector Channel 16) : (s.withChans x).counters = s.counters := rfl
@[simp] theorem State.withChans_pending (x : Vector Channel 16) : (s.withChans x).pending = s.pending := rfl
@[simp] theorem State.withChans_turns (x : Vector Channel 16) : (s.withChans x).turns = s.turns := rfl
@[simp] theorem State.withChans_point (x : Vector Channel 16) (i : Fin 256) : (s.withChans x).point i = s.point i := rfl
@[simp] theorem State.withChans_reg (x : Vector Channel 16) (i : Fin 32) : (s.withChans x).reg i = s.reg i := rfl
@[simp] theorem State.withChans_sup (x : Vector Channel 16) (i : Fin 32) : (s.withChans x).sup i = s.sup i := rfl
@[simp] theorem State.withChans_chan (x : Vector Channel 16) (i : Fin 16) : (s.withChans x).chan i = x[i] := rfl

/-! ## withRu -/

@[simp] theorem State.withRu_timebase (x : RequestUnit) : (s.withRu x).timebase = s.timebase := rfl
@[simp] theorem State.withRu_ci (x : RequestUnit) : (s.withRu x).ci = s.ci := rfl
@[simp] theorem State.withRu_points (x : RequestUnit) : (s.withRu x).points = s.points := rfl
@[simp] theorem State.withRu_regs (x : RequestUnit) : (s.withRu x).regs = s.regs := rfl
@[simp] theorem State.withRu_om (x : RequestUnit) : (s.withRu x).om = s.om := rfl
@[simp] theorem State.withRu_sups (x : RequestUnit) : (s.withRu x).sups = s.sups := rfl
@[simp] theorem State.withRu_chans (x : RequestUnit) : (s.withRu x).chans = s.chans := rfl
@[simp] theorem State.withRu_ru (x : RequestUnit) : (s.withRu x).ru = x := rfl
@[simp] theorem State.withRu_nu (x : RequestUnit) : (s.withRu x).nu = s.nu := rfl
@[simp] theorem State.withRu_sweep (x : RequestUnit) : (s.withRu x).sweep = s.sweep := rfl
@[simp] theorem State.withRu_counters (x : RequestUnit) : (s.withRu x).counters = s.counters := rfl
@[simp] theorem State.withRu_pending (x : RequestUnit) : (s.withRu x).pending = s.pending := rfl
@[simp] theorem State.withRu_turns (x : RequestUnit) : (s.withRu x).turns = s.turns := rfl
@[simp] theorem State.withRu_point (x : RequestUnit) (i : Fin 256) : (s.withRu x).point i = s.point i := rfl
@[simp] theorem State.withRu_reg (x : RequestUnit) (i : Fin 32) : (s.withRu x).reg i = s.reg i := rfl
@[simp] theorem State.withRu_sup (x : RequestUnit) (i : Fin 32) : (s.withRu x).sup i = s.sup i := rfl
@[simp] theorem State.withRu_chan (x : RequestUnit) (i : Fin 16) : (s.withRu x).chan i = s.chan i := rfl

/-! ## withNu -/

@[simp] theorem State.withNu_timebase (x : NoteUnit) : (s.withNu x).timebase = s.timebase := rfl
@[simp] theorem State.withNu_ci (x : NoteUnit) : (s.withNu x).ci = s.ci := rfl
@[simp] theorem State.withNu_points (x : NoteUnit) : (s.withNu x).points = s.points := rfl
@[simp] theorem State.withNu_regs (x : NoteUnit) : (s.withNu x).regs = s.regs := rfl
@[simp] theorem State.withNu_om (x : NoteUnit) : (s.withNu x).om = s.om := rfl
@[simp] theorem State.withNu_sups (x : NoteUnit) : (s.withNu x).sups = s.sups := rfl
@[simp] theorem State.withNu_chans (x : NoteUnit) : (s.withNu x).chans = s.chans := rfl
@[simp] theorem State.withNu_ru (x : NoteUnit) : (s.withNu x).ru = s.ru := rfl
@[simp] theorem State.withNu_nu (x : NoteUnit) : (s.withNu x).nu = x := rfl
@[simp] theorem State.withNu_sweep (x : NoteUnit) : (s.withNu x).sweep = s.sweep := rfl
@[simp] theorem State.withNu_counters (x : NoteUnit) : (s.withNu x).counters = s.counters := rfl
@[simp] theorem State.withNu_pending (x : NoteUnit) : (s.withNu x).pending = s.pending := rfl
@[simp] theorem State.withNu_turns (x : NoteUnit) : (s.withNu x).turns = s.turns := rfl
@[simp] theorem State.withNu_point (x : NoteUnit) (i : Fin 256) : (s.withNu x).point i = s.point i := rfl
@[simp] theorem State.withNu_reg (x : NoteUnit) (i : Fin 32) : (s.withNu x).reg i = s.reg i := rfl
@[simp] theorem State.withNu_sup (x : NoteUnit) (i : Fin 32) : (s.withNu x).sup i = s.sup i := rfl
@[simp] theorem State.withNu_chan (x : NoteUnit) (i : Fin 16) : (s.withNu x).chan i = s.chan i := rfl

/-! ## withSweep -/

@[simp] theorem State.withSweep_timebase (x : Option Sweep) : (s.withSweep x).timebase = s.timebase := rfl
@[simp] theorem State.withSweep_ci (x : Option Sweep) : (s.withSweep x).ci = s.ci := rfl
@[simp] theorem State.withSweep_points (x : Option Sweep) : (s.withSweep x).points = s.points := rfl
@[simp] theorem State.withSweep_regs (x : Option Sweep) : (s.withSweep x).regs = s.regs := rfl
@[simp] theorem State.withSweep_om (x : Option Sweep) : (s.withSweep x).om = s.om := rfl
@[simp] theorem State.withSweep_sups (x : Option Sweep) : (s.withSweep x).sups = s.sups := rfl
@[simp] theorem State.withSweep_chans (x : Option Sweep) : (s.withSweep x).chans = s.chans := rfl
@[simp] theorem State.withSweep_ru (x : Option Sweep) : (s.withSweep x).ru = s.ru := rfl
@[simp] theorem State.withSweep_nu (x : Option Sweep) : (s.withSweep x).nu = s.nu := rfl
@[simp] theorem State.withSweep_sweep (x : Option Sweep) : (s.withSweep x).sweep = x := rfl
@[simp] theorem State.withSweep_counters (x : Option Sweep) : (s.withSweep x).counters = s.counters := rfl
@[simp] theorem State.withSweep_pending (x : Option Sweep) : (s.withSweep x).pending = s.pending := rfl
@[simp] theorem State.withSweep_turns (x : Option Sweep) : (s.withSweep x).turns = s.turns := rfl
@[simp] theorem State.withSweep_point (x : Option Sweep) (i : Fin 256) : (s.withSweep x).point i = s.point i := rfl
@[simp] theorem State.withSweep_reg (x : Option Sweep) (i : Fin 32) : (s.withSweep x).reg i = s.reg i := rfl
@[simp] theorem State.withSweep_sup (x : Option Sweep) (i : Fin 32) : (s.withSweep x).sup i = s.sup i := rfl
@[simp] theorem State.withSweep_chan (x : Option Sweep) (i : Fin 16) : (s.withSweep x).chan i = s.chan i := rfl

/-! ## withCounters -/

@[simp] theorem State.withCounters_timebase (x : TrafficCounters) : (s.withCounters x).timebase = s.timebase := rfl
@[simp] theorem State.withCounters_ci (x : TrafficCounters) : (s.withCounters x).ci = s.ci := rfl
@[simp] theorem State.withCounters_points (x : TrafficCounters) : (s.withCounters x).points = s.points := rfl
@[simp] theorem State.withCounters_regs (x : TrafficCounters) : (s.withCounters x).regs = s.regs := rfl
@[simp] theorem State.withCounters_om (x : TrafficCounters) : (s.withCounters x).om = s.om := rfl
@[simp] theorem State.withCounters_sups (x : TrafficCounters) : (s.withCounters x).sups = s.sups := rfl
@[simp] theorem State.withCounters_chans (x : TrafficCounters) : (s.withCounters x).chans = s.chans := rfl
@[simp] theorem State.withCounters_ru (x : TrafficCounters) : (s.withCounters x).ru = s.ru := rfl
@[simp] theorem State.withCounters_nu (x : TrafficCounters) : (s.withCounters x).nu = s.nu := rfl
@[simp] theorem State.withCounters_sweep (x : TrafficCounters) : (s.withCounters x).sweep = s.sweep := rfl
@[simp] theorem State.withCounters_counters (x : TrafficCounters) : (s.withCounters x).counters = x := rfl
@[simp] theorem State.withCounters_pending (x : TrafficCounters) : (s.withCounters x).pending = s.pending := rfl
@[simp] theorem State.withCounters_turns (x : TrafficCounters) : (s.withCounters x).turns = s.turns := rfl
@[simp] theorem State.withCounters_point (x : TrafficCounters) (i : Fin 256) : (s.withCounters x).point i = s.point i := rfl
@[simp] theorem State.withCounters_reg (x : TrafficCounters) (i : Fin 32) : (s.withCounters x).reg i = s.reg i := rfl
@[simp] theorem State.withCounters_sup (x : TrafficCounters) (i : Fin 32) : (s.withCounters x).sup i = s.sup i := rfl
@[simp] theorem State.withCounters_chan (x : TrafficCounters) (i : Fin 16) : (s.withCounters x).chan i = s.chan i := rfl

/-! ## withPending -/

@[simp] theorem State.withPending_timebase (x : List Instr) : (s.withPending x).timebase = s.timebase := rfl
@[simp] theorem State.withPending_ci (x : List Instr) : (s.withPending x).ci = s.ci := rfl
@[simp] theorem State.withPending_points (x : List Instr) : (s.withPending x).points = s.points := rfl
@[simp] theorem State.withPending_regs (x : List Instr) : (s.withPending x).regs = s.regs := rfl
@[simp] theorem State.withPending_om (x : List Instr) : (s.withPending x).om = s.om := rfl
@[simp] theorem State.withPending_sups (x : List Instr) : (s.withPending x).sups = s.sups := rfl
@[simp] theorem State.withPending_chans (x : List Instr) : (s.withPending x).chans = s.chans := rfl
@[simp] theorem State.withPending_ru (x : List Instr) : (s.withPending x).ru = s.ru := rfl
@[simp] theorem State.withPending_nu (x : List Instr) : (s.withPending x).nu = s.nu := rfl
@[simp] theorem State.withPending_sweep (x : List Instr) : (s.withPending x).sweep = s.sweep := rfl
@[simp] theorem State.withPending_counters (x : List Instr) : (s.withPending x).counters = s.counters := rfl
@[simp] theorem State.withPending_pending (x : List Instr) : (s.withPending x).pending = x := rfl
@[simp] theorem State.withPending_turns (x : List Instr) : (s.withPending x).turns = s.turns := rfl
@[simp] theorem State.withPending_point (x : List Instr) (i : Fin 256) : (s.withPending x).point i = s.point i := rfl
@[simp] theorem State.withPending_reg (x : List Instr) (i : Fin 32) : (s.withPending x).reg i = s.reg i := rfl
@[simp] theorem State.withPending_sup (x : List Instr) (i : Fin 32) : (s.withPending x).sup i = s.sup i := rfl
@[simp] theorem State.withPending_chan (x : List Instr) (i : Fin 16) : (s.withPending x).chan i = s.chan i := rfl

/-! ## withTurns -/

@[simp] theorem State.withTurns_timebase (x : List Turn) : (s.withTurns x).timebase = s.timebase := rfl
@[simp] theorem State.withTurns_ci (x : List Turn) : (s.withTurns x).ci = s.ci := rfl
@[simp] theorem State.withTurns_points (x : List Turn) : (s.withTurns x).points = s.points := rfl
@[simp] theorem State.withTurns_regs (x : List Turn) : (s.withTurns x).regs = s.regs := rfl
@[simp] theorem State.withTurns_om (x : List Turn) : (s.withTurns x).om = s.om := rfl
@[simp] theorem State.withTurns_sups (x : List Turn) : (s.withTurns x).sups = s.sups := rfl
@[simp] theorem State.withTurns_chans (x : List Turn) : (s.withTurns x).chans = s.chans := rfl
@[simp] theorem State.withTurns_ru (x : List Turn) : (s.withTurns x).ru = s.ru := rfl
@[simp] theorem State.withTurns_nu (x : List Turn) : (s.withTurns x).nu = s.nu := rfl
@[simp] theorem State.withTurns_sweep (x : List Turn) : (s.withTurns x).sweep = s.sweep := rfl
@[simp] theorem State.withTurns_counters (x : List Turn) : (s.withTurns x).counters = s.counters := rfl
@[simp] theorem State.withTurns_pending (x : List Turn) : (s.withTurns x).pending = s.pending := rfl
@[simp] theorem State.withTurns_turns (x : List Turn) : (s.withTurns x).turns = x := rfl
@[simp] theorem State.withTurns_point (x : List Turn) (i : Fin 256) : (s.withTurns x).point i = s.point i := rfl
@[simp] theorem State.withTurns_reg (x : List Turn) (i : Fin 32) : (s.withTurns x).reg i = s.reg i := rfl
@[simp] theorem State.withTurns_sup (x : List Turn) (i : Fin 32) : (s.withTurns x).sup i = s.sup i := rfl
@[simp] theorem State.withTurns_chan (x : List Turn) (i : Fin 16) : (s.withTurns x).chan i = s.chan i := rfl

/-! ## setPoint -/

@[simp] theorem State.setPoint_timebase (i : Fin 256) (x : Option Point) : (s.setPoint i x).timebase = s.timebase := rfl
@[simp] theorem State.setPoint_ci (i : Fin 256) (x : Option Point) : (s.setPoint i x).ci = s.ci := rfl
@[simp] theorem State.setPoint_regs (i : Fin 256) (x : Option Point) : (s.setPoint i x).regs = s.regs := rfl
@[simp] theorem State.setPoint_om (i : Fin 256) (x : Option Point) : (s.setPoint i x).om = s.om := rfl
@[simp] theorem State.setPoint_sups (i : Fin 256) (x : Option Point) : (s.setPoint i x).sups = s.sups := rfl
@[simp] theorem State.setPoint_chans (i : Fin 256) (x : Option Point) : (s.setPoint i x).chans = s.chans := rfl
@[simp] theorem State.setPoint_ru (i : Fin 256) (x : Option Point) : (s.setPoint i x).ru = s.ru := rfl
@[simp] theorem State.setPoint_nu (i : Fin 256) (x : Option Point) : (s.setPoint i x).nu = s.nu := rfl
@[simp] theorem State.setPoint_sweep (i : Fin 256) (x : Option Point) : (s.setPoint i x).sweep = s.sweep := rfl
@[simp] theorem State.setPoint_counters (i : Fin 256) (x : Option Point) : (s.setPoint i x).counters = s.counters := rfl
@[simp] theorem State.setPoint_pending (i : Fin 256) (x : Option Point) : (s.setPoint i x).pending = s.pending := rfl
@[simp] theorem State.setPoint_turns (i : Fin 256) (x : Option Point) : (s.setPoint i x).turns = s.turns := rfl
@[simp] theorem State.setPoint_reg (i : Fin 256) (x : Option Point) (j : Fin 32) : (s.setPoint i x).reg j = s.reg j := rfl
@[simp] theorem State.setPoint_sup (i : Fin 256) (x : Option Point) (j : Fin 32) : (s.setPoint i x).sup j = s.sup j := rfl
@[simp] theorem State.setPoint_chan (i : Fin 256) (x : Option Point) (j : Fin 16) : (s.setPoint i x).chan j = s.chan j := rfl

/-- The record written reads as it was written. -/
@[simp] theorem State.setPoint_self (i : Fin 256) (x : Option Point) : (s.setPoint i x).point i = x := by
  simp [State.point, State.setPoint]

/-- Every other record reads as before. -/
theorem State.setPoint_ne {i j : Fin 256} (x : Option Point) (h : j ≠ i) : (s.setPoint i x).point j = s.point j := by
  have h' : i.val ≠ j.val := fun e => h (Fin.ext e.symm)
  simp [State.point, State.setPoint, h']

/-- Read after write, both cases at once. -/
theorem State.setPoint_read (i j : Fin 256) (x : Option Point) : (s.setPoint i x).point j = if j = i then x else s.point j := by
  split
  · next h => rw [h, State.setPoint_self]
  · next h => exact s.setPoint_ne x h

/-- Writing a record as it stands changes nothing. -/
@[simp] theorem State.setPoint_eta (i : Fin 256) : s.setPoint i (s.point i) = s := by
  simp [State.point, State.setPoint]

/-- Of two writes to one record the later one stands. -/
@[simp] theorem State.setPoint_setPoint (i : Fin 256) (x y : Option Point) : (s.setPoint i x).setPoint i y = s.setPoint i y := by
  simp [State.setPoint]

/-! ## setReg -/

@[simp] theorem State.setReg_timebase (i : Fin 32) (x : Regulator) : (s.setReg i x).timebase = s.timebase := rfl
@[simp] theorem State.setReg_ci (i : Fin 32) (x : Regulator) : (s.setReg i x).ci = s.ci := rfl
@[simp] theorem State.setReg_points (i : Fin 32) (x : Regulator) : (s.setReg i x).points = s.points := rfl
@[simp] theorem State.setReg_om (i : Fin 32) (x : Regulator) : (s.setReg i x).om = s.om := rfl
@[simp] theorem State.setReg_sups (i : Fin 32) (x : Regulator) : (s.setReg i x).sups = s.sups := rfl
@[simp] theorem State.setReg_chans (i : Fin 32) (x : Regulator) : (s.setReg i x).chans = s.chans := rfl
@[simp] theorem State.setReg_ru (i : Fin 32) (x : Regulator) : (s.setReg i x).ru = s.ru := rfl
@[simp] theorem State.setReg_nu (i : Fin 32) (x : Regulator) : (s.setReg i x).nu = s.nu := rfl
@[simp] theorem State.setReg_sweep (i : Fin 32) (x : Regulator) : (s.setReg i x).sweep = s.sweep := rfl
@[simp] theorem State.setReg_counters (i : Fin 32) (x : Regulator) : (s.setReg i x).counters = s.counters := rfl
@[simp] theorem State.setReg_pending (i : Fin 32) (x : Regulator) : (s.setReg i x).pending = s.pending := rfl
@[simp] theorem State.setReg_turns (i : Fin 32) (x : Regulator) : (s.setReg i x).turns = s.turns := rfl
@[simp] theorem State.setReg_point (i : Fin 32) (x : Regulator) (j : Fin 256) : (s.setReg i x).point j = s.point j := rfl
@[simp] theorem State.setReg_sup (i : Fin 32) (x : Regulator) (j : Fin 32) : (s.setReg i x).sup j = s.sup j := rfl
@[simp] theorem State.setReg_chan (i : Fin 32) (x : Regulator) (j : Fin 16) : (s.setReg i x).chan j = s.chan j := rfl

/-- The record written reads as it was written. -/
@[simp] theorem State.setReg_self (i : Fin 32) (x : Regulator) : (s.setReg i x).reg i = x := by
  simp [State.reg, State.setReg]

/-- Every other record reads as before. -/
theorem State.setReg_ne {i j : Fin 32} (x : Regulator) (h : j ≠ i) : (s.setReg i x).reg j = s.reg j := by
  have h' : i.val ≠ j.val := fun e => h (Fin.ext e.symm)
  simp [State.reg, State.setReg, h']

/-- Read after write, both cases at once. -/
theorem State.setReg_read (i j : Fin 32) (x : Regulator) : (s.setReg i x).reg j = if j = i then x else s.reg j := by
  split
  · next h => rw [h, State.setReg_self]
  · next h => exact s.setReg_ne x h

/-- Writing a record as it stands changes nothing. -/
@[simp] theorem State.setReg_eta (i : Fin 32) : s.setReg i (s.reg i) = s := by
  simp [State.reg, State.setReg]

/-- Of two writes to one record the later one stands. -/
@[simp] theorem State.setReg_setReg (i : Fin 32) (x y : Regulator) : (s.setReg i x).setReg i y = s.setReg i y := by
  simp [State.setReg]

/-! ## setSup -/

@[simp] theorem State.setSup_timebase (i : Fin 32) (x : Supervisor) : (s.setSup i x).timebase = s.timebase := rfl
@[simp] theorem State.setSup_ci (i : Fin 32) (x : Supervisor) : (s.setSup i x).ci = s.ci := rfl
@[simp] theorem State.setSup_points (i : Fin 32) (x : Supervisor) : (s.setSup i x).points = s.points := rfl
@[simp] theorem State.setSup_regs (i : Fin 32) (x : Supervisor) : (s.setSup i x).regs = s.regs := rfl
@[simp] theorem State.setSup_om (i : Fin 32) (x : Supervisor) : (s.setSup i x).om = s.om := rfl
@[simp] theorem State.setSup_chans (i : Fin 32) (x : Supervisor) : (s.setSup i x).chans = s.chans := rfl
@[simp] theorem State.setSup_ru (i : Fin 32) (x : Supervisor) : (s.setSup i x).ru = s.ru := rfl
@[simp] theorem State.setSup_nu (i : Fin 32) (x : Supervisor) : (s.setSup i x).nu = s.nu := rfl
@[simp] theorem State.setSup_sweep (i : Fin 32) (x : Supervisor) : (s.setSup i x).sweep = s.sweep := rfl
@[simp] theorem State.setSup_counters (i : Fin 32) (x : Supervisor) : (s.setSup i x).counters = s.counters := rfl
@[simp] theorem State.setSup_pending (i : Fin 32) (x : Supervisor) : (s.setSup i x).pending = s.pending := rfl
@[simp] theorem State.setSup_turns (i : Fin 32) (x : Supervisor) : (s.setSup i x).turns = s.turns := rfl
@[simp] theorem State.setSup_point (i : Fin 32) (x : Supervisor) (j : Fin 256) : (s.setSup i x).point j = s.point j := rfl
@[simp] theorem State.setSup_reg (i : Fin 32) (x : Supervisor) (j : Fin 32) : (s.setSup i x).reg j = s.reg j := rfl
@[simp] theorem State.setSup_chan (i : Fin 32) (x : Supervisor) (j : Fin 16) : (s.setSup i x).chan j = s.chan j := rfl

/-- The record written reads as it was written. -/
@[simp] theorem State.setSup_self (i : Fin 32) (x : Supervisor) : (s.setSup i x).sup i = x := by
  simp [State.sup, State.setSup]

/-- Every other record reads as before. -/
theorem State.setSup_ne {i j : Fin 32} (x : Supervisor) (h : j ≠ i) : (s.setSup i x).sup j = s.sup j := by
  have h' : i.val ≠ j.val := fun e => h (Fin.ext e.symm)
  simp [State.sup, State.setSup, h']

/-- Read after write, both cases at once. -/
theorem State.setSup_read (i j : Fin 32) (x : Supervisor) : (s.setSup i x).sup j = if j = i then x else s.sup j := by
  split
  · next h => rw [h, State.setSup_self]
  · next h => exact s.setSup_ne x h

/-- Writing a record as it stands changes nothing. -/
@[simp] theorem State.setSup_eta (i : Fin 32) : s.setSup i (s.sup i) = s := by
  simp [State.sup, State.setSup]

/-- Of two writes to one record the later one stands. -/
@[simp] theorem State.setSup_setSup (i : Fin 32) (x y : Supervisor) : (s.setSup i x).setSup i y = s.setSup i y := by
  simp [State.setSup]

/-! ## setChan -/

@[simp] theorem State.setChan_timebase (i : Fin 16) (x : Channel) : (s.setChan i x).timebase = s.timebase := rfl
@[simp] theorem State.setChan_ci (i : Fin 16) (x : Channel) : (s.setChan i x).ci = s.ci := rfl
@[simp] theorem State.setChan_points (i : Fin 16) (x : Channel) : (s.setChan i x).points = s.points := rfl
@[simp] theorem State.setChan_regs (i : Fin 16) (x : Channel) : (s.setChan i x).regs = s.regs := rfl
@[simp] theorem State.setChan_om (i : Fin 16) (x : Channel) : (s.setChan i x).om = s.om := rfl
@[simp] theorem State.setChan_sups (i : Fin 16) (x : Channel) : (s.setChan i x).sups = s.sups := rfl
@[simp] theorem State.setChan_ru (i : Fin 16) (x : Channel) : (s.setChan i x).ru = s.ru := rfl
@[simp] theorem State.setChan_nu (i : Fin 16) (x : Channel) : (s.setChan i x).nu = s.nu := rfl
@[simp] theorem State.setChan_sweep (i : Fin 16) (x : Channel) : (s.setChan i x).sweep = s.sweep := rfl
@[simp] theorem State.setChan_counters (i : Fin 16) (x : Channel) : (s.setChan i x).counters = s.counters := rfl
@[simp] theorem State.setChan_pending (i : Fin 16) (x : Channel) : (s.setChan i x).pending = s.pending := rfl
@[simp] theorem State.setChan_turns (i : Fin 16) (x : Channel) : (s.setChan i x).turns = s.turns := rfl
@[simp] theorem State.setChan_point (i : Fin 16) (x : Channel) (j : Fin 256) : (s.setChan i x).point j = s.point j := rfl
@[simp] theorem State.setChan_reg (i : Fin 16) (x : Channel) (j : Fin 32) : (s.setChan i x).reg j = s.reg j := rfl
@[simp] theorem State.setChan_sup (i : Fin 16) (x : Channel) (j : Fin 32) : (s.setChan i x).sup j = s.sup j := rfl

/-- The record written reads as it was written. -/
@[simp] theorem State.setChan_self (i : Fin 16) (x : Channel) : (s.setChan i x).chan i = x := by
  simp [State.chan, State.setChan]

/-- Every other record reads as before. -/
theorem State.setChan_ne {i j : Fin 16} (x : Channel) (h : j ≠ i) : (s.setChan i x).chan j = s.chan j := by
  have h' : i.val ≠ j.val := fun e => h (Fin.ext e.symm)
  simp [State.chan, State.setChan, h']

/-- Read after write, both cases at once. -/
theorem State.setChan_read (i j : Fin 16) (x : Channel) : (s.setChan i x).chan j = if j = i then x else s.chan j := by
  split
  · next h => rw [h, State.setChan_self]
  · next h => exact s.setChan_ne x h

/-- Writing a record as it stands changes nothing. -/
@[simp] theorem State.setChan_eta (i : Fin 16) : s.setChan i (s.chan i) = s := by
  simp [State.chan, State.setChan]

/-- Of two writes to one record the later one stands. -/
@[simp] theorem State.setChan_setChan (i : Fin 16) (x y : Channel) : (s.setChan i x).setChan i y = s.setChan i y := by
  simp [State.setChan]

/-! ## Records after cold reset -/

variable (a : BitVec 7)

@[simp] theorem State.cold_point (i : Fin 256) : (State.cold a).point i = none := by simp [State.cold, State.point]
@[simp] theorem State.cold_reg (r : Fin 32) : (State.cold a).reg r = Regulator.default := by simp [State.cold, State.reg]
@[simp] theorem State.cold_sup (r : Fin 32) : (State.cold a).sup r = Supervisor.reset := by simp [State.cold, State.sup]
@[simp] theorem State.cold_chan (c : Fin 16) : (State.cold a).chan c = Channel.default := by simp [State.cold, State.chan]

/-! ## Index sets -/

@[simp] theorem mem_insertIndex {n : Nat} (i j : Fin n) (l : List (Fin n)) : j ∈ insertIndex i l ↔ j = i ∨ j ∈ l := by
  simp [insertIndex]

@[simp] theorem mem_removeIndex {n : Nat} (i j : Fin n) (l : List (Fin n)) : j ∈ removeIndex i l ↔ j ∈ l ∧ j ≠ i := by
  simp [removeIndex]

theorem nodup_insertIndex {n : Nat} (i : Fin n) (l : List (Fin n)) : (insertIndex i l).Nodup :=
  (List.nodup_finRange n).filter _

theorem nodup_removeIndex {n : Nat} (i : Fin n) {l : List (Fin n)} (h : l.Nodup) : (removeIndex i l).Nodup := h.filter _

/-- A set that gains a member is not empty. -/
theorem insertIndex_ne_nil {n : Nat} (i : Fin n) (l : List (Fin n)) : insertIndex i l ≠ [] :=
  List.ne_nil_of_mem ((mem_insertIndex i i l).2 (Or.inl rfl))

/-! ## Doing one thing for each regulator -/

/-- A relation that each single claim keeps and that composes is kept by the whole. -/
theorem forEachRegulator_rel (f : Fin 32 → State → State) (R : State → State → Prop) (refl : ∀ s, R s s)
    (trans : ∀ s t u, R s t → R t u → R s u) (one : ∀ r s, R s (f r s)) (s : State) : R s (forEachRegulator f s) := by
  unfold forEachRegulator
  generalize List.finRange 32 = l
  induction l generalizing s with
  | nil => exact refl s
  | cons r l ih => exact trans _ _ _ (one r s) (ih (f r s))

/-- A property that each single claim keeps is kept by the whole. -/
theorem forEachRegulator_keeps (f : Fin 32 → State → State) (P : State → Prop) (one : ∀ r s, P s → P (f r s)) {s : State}
    (h : P s) : P (forEachRegulator f s) :=
  forEachRegulator_rel f (fun s t => P s → P t) (fun _ h => h) (fun _ _ _ a b h => b (a h)) one s h

/-- A field that each single claim keeps is kept by the whole. -/
theorem forEachRegulator_field {α : Type} (f : Fin 32 → State → State) (g : State → α) (one : ∀ r s, g (f r s) = g s) (s : State) :
    g (forEachRegulator f s) = g s :=
  forEachRegulator_rel f (fun s t => g t = g s) (fun _ => rfl) (fun _ _ _ a b => b.trans a) one s

end Sys2Proof.Machine
end

