-- ==== Sys2Proof/Laws/Traffic.lean ====
section
/-! SUPPORT. What counting an event, raising a note and telling the alert record can do: they touch the Note Unit and the counters only,
and the Note Unit only by settling notes. -/

namespace Sys2Proof.Machine

/-- Doing a thing several times keeps what doing it once keeps. -/
theorem repeat_keeps {α : Type} (f : α → α) (P : α → Prop) (one : ∀ a, P a → P (f a)) : ∀ (n : Nat) {a : α}, P a → P (Nat.repeat f n a)
  | 0, _, h => h
  | n + 1, _, h => one _ (repeat_keeps f P one n h)

/-- Counting an event keeps every relation to the state before that its two writes, and repetition, keep. -/
theorem signalTo_keeps (P : State → Prop)
    (one : ∀ c s, P s → P ((s.withCounters (s.counters.count c)).withNu
      (raiseCounterNotes c s.timebase ((s.counters.overflowing c).filter (fun i => s.counters.counter[i].noteOnOverflow)) s.nu).1)) :
    ∀ (d : Nat) (c : EventClass) {s : State}, P s → P (signalTo d c s)
  | 0, _, _, h => h
  | d + 1, c, s, h => by
    unfold signalTo
    exact repeat_keeps _ P (fun _ => signalTo_keeps P one d .notesEvicted) _ (one c s h)

/-- `signal` changes the Note Unit and the counters, and nothing else. -/
theorem signal_frame (c : EventClass) (s : State) : ∃ u k, signal c s = (s.withNu u).withCounters k :=
  signalTo_keeps (fun t => ∃ u k, t = (s.withNu u).withCounters k)
    (fun _ t ⟨_, _, h⟩ => by subst h; exact ⟨_, _, rfl⟩) _ c ⟨s.nu, s.counters, rfl⟩

/-- A property of the Note Unit that settling any note keeps is kept by the COUNTER notes of an event. -/
theorem raiseCounterNotes_keeps (P : NoteUnit → Prop) (one : ∀ n u, P u → P (u.settle n).1) (c : EventClass) (now : Time)
    (l : List (Fin 4)) {u : NoteUnit} (h : P u) : P (raiseCounterNotes c now l u).1 := by
  unfold raiseCounterNotes
  suffices key : ∀ (a : NoteUnit × Nat), P a.1 →
      P (l.foldl (fun a i => ((a.1.settle (counterNote c now i)).1, a.2 + (if (a.1.settle (counterNote c now i)).2 then 1 else 0))) a).1
    from key (u, 0) h
  induction l with
  | nil => exact fun _ h => h
  | cons i l ih => exact fun a ha => ih _ (one _ _ ha)

/-- A property of the Note Unit that settling any note keeps is kept by an event. -/
theorem signal_nu_keeps (P : NoteUnit → Prop) (one : ∀ n u, P u → P (u.settle n).1) (c : EventClass) {s : State} (h : P s.nu) :
    P (signal c s).nu :=
  signalTo_keeps (fun t => P t.nu) (fun _ _ h => raiseCounterNotes_keeps P one _ _ _ h) _ c h

/-- Raising a note changes the Note Unit and the counters, and nothing else. -/
theorem raise_frame (kind : NoteKind) (subject : Option Nat) (value : Int) (severity : Severity) (s : State) :
    ∃ u k, raise kind subject value severity s = (s.withNu u).withCounters k := by
  unfold raise
  dsimp only
  split
  · obtain ⟨u, k, h⟩ := signal_frame .notesEvicted (s.withNu _)
    exact ⟨u, k, h⟩
  · refine ⟨(s.nu.settle { kind := kind, subject := subject, value := value, severity := severity, timestamp := s.timebase }).1,
      s.counters, rfl⟩

/-- A property of the Note Unit that settling any note keeps is kept by a raise. -/
theorem raise_nu_keeps (P : NoteUnit → Prop) (one : ∀ n u, P u → P (u.settle n).1) (kind : NoteKind) (subject : Option Nat) (value : Int)
    (severity : Severity) {s : State} (h : P s.nu) : P (raise kind subject value severity s).nu := by
  unfold raise
  dsimp only
  split
  · exact signal_nu_keeps P one _ (one _ _ h)
  · exact one _ _ h

/-! ## Settling a note keeps everything of the Note Unit but the unsent notes and the lost count -/

theorem settle_frame (n : Note) (u : NoteUnit) : ∃ l k, (u.settle n).1 = { u with unsent := l, lost := k } := by
  unfold NoteUnit.settle
  split
  · exact ⟨_, _, rfl⟩
  · split
    · exact ⟨_, _, rfl⟩
    · split <;> exact ⟨_, _, rfl⟩

@[simp] theorem settle_inFlight (n : Note) (u : NoteUnit) : (u.settle n).1.inFlight = u.inFlight := by
  obtain ⟨_, _, h⟩ := settle_frame n u; rw [h]

@[simp] theorem signal_nu_inFlight (c : EventClass) (s : State) : (signal c s).nu.inFlight = s.nu.inFlight :=
  signal_nu_keeps (fun u => u.inFlight = s.nu.inFlight) (fun _ _ h => (settle_inFlight _ _).trans h) c rfl

@[simp] theorem raise_nu_inFlight (kind : NoteKind) (subject : Option Nat) (value : Int) (severity : Severity) (s : State) :
    (raise kind subject value severity s).nu.inFlight = s.nu.inFlight :=
  raise_nu_keeps (fun u => u.inFlight = s.nu.inFlight) (fun _ _ h => (settle_inFlight _ _).trans h) kind subject value severity rfl

@[simp] theorem settle_nextSequence (n : Note) (u : NoteUnit) : (u.settle n).1.nextSequence = u.nextSequence := by
  obtain ⟨_, _, h⟩ := settle_frame n u; rw [h]

@[simp] theorem signal_nu_nextSequence (c : EventClass) (s : State) : (signal c s).nu.nextSequence = s.nu.nextSequence :=
  signal_nu_keeps (fun u => u.nextSequence = s.nu.nextSequence) (fun _ _ h => (settle_nextSequence _ _).trans h) c rfl

@[simp] theorem raise_nu_nextSequence (kind : NoteKind) (subject : Option Nat) (value : Int) (severity : Severity) (s : State) :
    (raise kind subject value severity s).nu.nextSequence = s.nu.nextSequence :=
  raise_nu_keeps (fun u => u.nextSequence = s.nu.nextSequence) (fun _ _ h => (settle_nextSequence _ _).trans h) kind subject value severity rfl

@[simp] theorem settle_resendTimer (n : Note) (u : NoteUnit) : (u.settle n).1.resendTimer = u.resendTimer := by
  obtain ⟨_, _, h⟩ := settle_frame n u; rw [h]

@[simp] theorem signal_nu_resendTimer (c : EventClass) (s : State) : (signal c s).nu.resendTimer = s.nu.resendTimer :=
  signal_nu_keeps (fun u => u.resendTimer = s.nu.resendTimer) (fun _ _ h => (settle_resendTimer _ _).trans h) c rfl

@[simp] theorem raise_nu_resendTimer (kind : NoteKind) (subject : Option Nat) (value : Int) (severity : Severity) (s : State) :
    (raise kind subject value severity s).nu.resendTimer = s.nu.resendTimer :=
  raise_nu_keeps (fun u => u.resendTimer = s.nu.resendTimer) (fun _ _ h => (settle_resendTimer _ _).trans h) kind subject value severity rfl

@[simp] theorem settle_due (n : Note) (u : NoteUnit) : (u.settle n).1.due = u.due := by
  obtain ⟨_, _, h⟩ := settle_frame n u; rw [h]

@[simp] theorem signal_nu_due (c : EventClass) (s : State) : (signal c s).nu.due = s.nu.due :=
  signal_nu_keeps (fun u => u.due = s.nu.due) (fun _ _ h => (settle_due _ _).trans h) c rfl

@[simp] theorem raise_nu_due (kind : NoteKind) (subject : Option Nat) (value : Int) (severity : Severity) (s : State) :
    (raise kind subject value severity s).nu.due = s.nu.due :=
  raise_nu_keeps (fun u => u.due = s.nu.due) (fun _ _ h => (settle_due _ _).trans h) kind subject value severity rfl

@[simp] theorem settle_alert (n : Note) (u : NoteUnit) : (u.settle n).1.alert = u.alert := by
  obtain ⟨_, _, h⟩ := settle_frame n u; rw [h]

@[simp] theorem signal_nu_alert (c : EventClass) (s : State) : (signal c s).nu.alert = s.nu.alert :=
  signal_nu_keeps (fun u => u.alert = s.nu.alert) (fun _ _ h => (settle_alert _ _).trans h) c rfl

@[simp] theorem raise_nu_alert (kind : NoteKind) (subject : Option Nat) (value : Int) (severity : Severity) (s : State) :
    (raise kind subject value severity s).nu.alert = s.nu.alert :=
  raise_nu_keeps (fun u => u.alert = s.nu.alert) (fun _ _ h => (settle_alert _ _).trans h) kind subject value severity rfl

/-! ## Fields that an event, a raise and a word to the alert record leave as they were -/

@[simp] theorem signal_timebase (c : EventClass) (s : State) : (signal c s).timebase = s.timebase := by
  obtain ⟨_, _, h⟩ := signal_frame c s; rw [h]; rfl

@[simp] theorem signal_ci (c : EventClass) (s : State) : (signal c s).ci = s.ci := by
  obtain ⟨_, _, h⟩ := signal_frame c s; rw [h]; rfl

@[simp] theorem signal_points (c : EventClass) (s : State) : (signal c s).points = s.points := by
  obtain ⟨_, _, h⟩ := signal_frame c s; rw [h]; rfl

@[simp] theorem signal_regs (c : EventClass) (s : State) : (signal c s).regs = s.regs := by
  obtain ⟨_, _, h⟩ := signal_frame c s; rw [h]; rfl

@[simp] theorem signal_om (c : EventClass) (s : State) : (signal c s).om = s.om := by
  obtain ⟨_, _, h⟩ := signal_frame c s; rw [h]; rfl

@[simp] theorem signal_sups (c : EventClass) (s : State) : (signal c s).sups = s.sups := by
  obtain ⟨_, _, h⟩ := signal_frame c s; rw [h]; rfl

@[simp] theorem signal_chans (c : EventClass) (s : State) : (signal c s).chans = s.chans := by
  obtain ⟨_, _, h⟩ := signal_frame c s; rw [h]; rfl

@[simp] theorem signal_ru (c : EventClass) (s : State) : (signal c s).ru = s.ru := by
  obtain ⟨_, _, h⟩ := signal_frame c s; rw [h]; rfl

@[simp] theorem signal_sweep (c : EventClass) (s : State) : (signal c s).sweep = s.sweep := by
  obtain ⟨_, _, h⟩ := signal_frame c s; rw [h]; rfl

@[simp] theorem signal_pending (c : EventClass) (s : State) : (signal c s).pending = s.pending := by
  obtain ⟨_, _, h⟩ := signal_frame c s; rw [h]; rfl

@[simp] theorem signal_turns (c : EventClass) (s : State) : (signal c s).turns = s.turns := by
  obtain ⟨_, _, h⟩ := signal_frame c s; rw [h]; rfl

@[simp] theorem signal_point (c : EventClass) (s : State) (i : Fin 256) : (signal c s).point i = s.point i := by
  simp [State.point]

@[simp] theorem signal_reg (c : EventClass) (s : State) (i : Fin 32) : (signal c s).reg i = s.reg i := by
  simp [State.reg]

@[simp] theorem signal_sup (c : EventClass) (s : State) (i : Fin 32) : (signal c s).sup i = s.sup i := by
  simp [State.sup]

@[simp] theorem signal_chan (c : EventClass) (s : State) (i : Fin 16) : (signal c s).chan i = s.chan i := by
  simp [State.chan]

@[simp] theorem raise_timebase (kind : NoteKind) (subject : Option Nat) (value : Int) (severity : Severity) (s : State) : (raise kind subject value severity s).timebase = s.timebase := by
  obtain ⟨_, _, h⟩ := raise_frame kind subject value severity s; rw [h]; rfl

@[simp] theorem raise_ci (kind : NoteKind) (subject : Option Nat) (value : Int) (severity : Severity) (s : State) : (raise kind subject value severity s).ci = s.ci := by
  obtain ⟨_, _, h⟩ := raise_frame kind subject value severity s; rw [h]; rfl

@[simp] theorem raise_points (kind : NoteKind) (subject : Option Nat) (value : Int) (severity : Severity) (s : State) : (raise kind subject value severity s).points = s.points := by
  obtain ⟨_, _, h⟩ := raise_frame kind subject value severity s; rw [h]; rfl

@[simp] theorem raise_regs (kind : NoteKind) (subject : Option Nat) (value : Int) (severity : Severity) (s : State) : (raise kind subject value severity s).regs = s.regs := by
  obtain ⟨_, _, h⟩ := raise_frame kind subject value severity s; rw [h]; rfl

@[simp] theorem raise_om (kind : NoteKind) (subject : Option Nat) (value : Int) (severity : Severity) (s : State) : (raise kind subject value severity s).om = s.om := by
  obtain ⟨_, _, h⟩ := raise_frame kind subject value severity s; rw [h]; rfl

@[simp] theorem raise_sups (kind : NoteKind) (subject : Option Nat) (value : Int) (severity : Severity) (s : State) : (raise kind subject value severity s).sups = s.sups := by
  obtain ⟨_, _, h⟩ := raise_frame kind subject value severity s; rw [h]; rfl

@[simp] theorem raise_chans (kind : NoteKind) (subject : Option Nat) (value : Int) (severity : Severity) (s : State) : (raise kind subject value severity s).chans = s.chans := by
  obtain ⟨_, _, h⟩ := raise_frame kind subject value severity s; rw [h]; rfl

@[simp] theorem raise_ru (kind : NoteKind) (subject : Option Nat) (value : Int) (severity : Severity) (s : State) : (raise kind subject value severity s).ru = s.ru := by
  obtain ⟨_, _, h⟩ := raise_frame kind subject value severity s; rw [h]; rfl

@[simp] theorem raise_sweep (kind : NoteKind) (subject : Option Nat) (value : Int) (severity : Severity) (s : State) : (raise kind subject value severity s).sweep = s.sweep := by
  obtain ⟨_, _, h⟩ := raise_frame kind subject value severity s; rw [h]; rfl

@[simp] theorem raise_pending (kind : NoteKind) (subject : Option Nat) (value : Int) (severity : Severity) (s : State) : (raise kind subject value severity s).pending = s.pending := by
  obtain ⟨_, _, h⟩ := raise_frame kind subject value severity s; rw [h]; rfl

@[simp] theorem raise_turns (kind : NoteKind) (subject : Option Nat) (value : Int) (severity : Severity) (s : State) : (raise kind subject value severity s).turns = s.turns := by
  obtain ⟨_, _, h⟩ := raise_frame kind subject value severity s; rw [h]; rfl

@[simp] theorem raise_point (kind : NoteKind) (subject : Option Nat) (value : Int) (severity : Severity) (s : State) (i : Fin 256) : (raise kind subject value severity s).point i = s.point i := by
  simp [State.point]

@[simp] theorem raise_reg (kind : NoteKind) (subject : Option Nat) (value : Int) (severity : Severity) (s : State) (i : Fin 32) : (raise kind subject value severity s).reg i = s.reg i := by
  simp [State.reg]

@[simp] theorem raise_sup (kind : NoteKind) (subject : Option Nat) (value : Int) (severity : Severity) (s : State) (i : Fin 32) : (raise kind subject value severity s).sup i = s.sup i := by
  simp [State.sup]

@[simp] theorem raise_chan (kind : NoteKind) (subject : Option Nat) (value : Int) (severity : Severity) (s : State) (i : Fin 16) : (raise kind subject value severity s).chan i = s.chan i := by
  simp [State.chan]

@[simp] theorem tellOverride_timebase (b : Bool) (s : State) : (tellOverride b s).timebase = s.timebase := rfl

@[simp] theorem tellOverride_ci (b : Bool) (s : State) : (tellOverride b s).ci = s.ci := rfl

@[simp] theorem tellOverride_points (b : Bool) (s : State) : (tellOverride b s).points = s.points := rfl

@[simp] theorem tellOverride_regs (b : Bool) (s : State) : (tellOverride b s).regs = s.regs := rfl

@[simp] theorem tellOverride_om (b : Bool) (s : State) : (tellOverride b s).om = s.om := rfl

@[simp] theorem tellOverride_sups (b : Bool) (s : State) : (tellOverride b s).sups = s.sups := rfl

@[simp] theorem tellOverride_chans (b : Bool) (s : State) : (tellOverride b s).chans = s.chans := rfl

@[simp] theorem tellOverride_ru (b : Bool) (s : State) : (tellOverride b s).ru = s.ru := rfl

@[simp] theorem tellOverride_sweep (b : Bool) (s : State) : (tellOverride b s).sweep = s.sweep := rfl

@[simp] theorem tellOverride_counters (b : Bool) (s : State) : (tellOverride b s).counters = s.counters := rfl

@[simp] theorem tellOverride_pending (b : Bool) (s : State) : (tellOverride b s).pending = s.pending := rfl

@[simp] theorem tellOverride_turns (b : Bool) (s : State) : (tellOverride b s).turns = s.turns := rfl

@[simp] theorem tellOverride_nu_inFlight (b : Bool) (s : State) : (tellOverride b s).nu.inFlight = s.nu.inFlight := rfl

@[simp] theorem tellOverride_nu_unsent (b : Bool) (s : State) : (tellOverride b s).nu.unsent = s.nu.unsent := rfl

@[simp] theorem tellOverride_nu_nextSequence (b : Bool) (s : State) : (tellOverride b s).nu.nextSequence = s.nu.nextSequence := rfl

@[simp] theorem tellOverride_nu_lost (b : Bool) (s : State) : (tellOverride b s).nu.lost = s.nu.lost := rfl

@[simp] theorem tellOverride_nu_resendTimer (b : Bool) (s : State) : (tellOverride b s).nu.resendTimer = s.nu.resendTimer := rfl

@[simp] theorem tellOverride_nu_due (b : Bool) (s : State) : (tellOverride b s).nu.due = s.nu.due := rfl

@[simp] theorem tellOverride_point (b : Bool) (s : State) (i : Fin 256) : (tellOverride b s).point i = s.point i := rfl

@[simp] theorem tellOverride_reg (b : Bool) (s : State) (i : Fin 32) : (tellOverride b s).reg i = s.reg i := rfl

@[simp] theorem tellOverride_sup (b : Bool) (s : State) (i : Fin 32) : (tellOverride b s).sup i = s.sup i := rfl

@[simp] theorem tellOverride_chan (b : Bool) (s : State) (i : Fin 16) : (tellOverride b s).chan i = s.chan i := rfl

@[simp] theorem tellFaulted_timebase (c : Fin 16) (b : Bool) (s : State) : (tellFaulted c b s).timebase = s.timebase := rfl

@[simp] theorem tellFaulted_ci (c : Fin 16) (b : Bool) (s : State) : (tellFaulted c b s).ci = s.ci := rfl

@[simp] theorem tellFaulted_points (c : Fin 16) (b : Bool) (s : State) : (tellFaulted c b s).points = s.points := rfl

@[simp] theorem tellFaulted_regs (c : Fin 16) (b : Bool) (s : State) : (tellFaulted c b s).regs = s.regs := rfl

@[simp] theorem tellFaulted_om (c : Fin 16) (b : Bool) (s : State) : (tellFaulted c b s).om = s.om := rfl

@[simp] theorem tellFaulted_sups (c : Fin 16) (b : Bool) (s : State) : (tellFaulted c b s).sups = s.sups := rfl

@[simp] theorem tellFaulted_chans (c : Fin 16) (b : Bool) (s : State) : (tellFaulted c b s).chans = s.chans := rfl

@[simp] theorem tellFaulted_ru (c : Fin 16) (b : Bool) (s : State) : (tellFaulted c b s).ru = s.ru := rfl

@[simp] theorem tellFaulted_sweep (c : Fin 16) (b : Bool) (s : State) : (tellFaulted c b s).sweep = s.sweep := rfl

@[simp] theorem tellFaulted_counters (c : Fin 16) (b : Bool) (s : State) : (tellFaulted c b s).counters = s.counters := rfl

@[simp] theorem tellFaulted_pending (c : Fin 16) (b : Bool) (s : State) : (tellFaulted c b s).pending = s.pending := rfl

@[simp] theorem tellFaulted_turns (c : Fin 16) (b : Bool) (s : State) : (tellFaulted c b s).turns = s.turns := rfl

@[simp] theorem tellFaulted_nu_inFlight (c : Fin 16) (b : Bool) (s : State) : (tellFaulted c b s).nu.inFlight = s.nu.inFlight := rfl

@[simp] theorem tellFaulted_nu_unsent (c : Fin 16) (b : Bool) (s : State) : (tellFaulted c b s).nu.unsent = s.nu.unsent := rfl

@[simp] theorem tellFaulted_nu_nextSequence (c : Fin 16) (b : Bool) (s : State) : (tellFaulted c b s).nu.nextSequence = s.nu.nextSequence := rfl

@[simp] theorem tellFaulted_nu_lost (c : Fin 16) (b : Bool) (s : State) : (tellFaulted c b s).nu.lost = s.nu.lost := rfl

@[simp] theorem tellFaulted_nu_resendTimer (c : Fin 16) (b : Bool) (s : State) : (tellFaulted c b s).nu.resendTimer = s.nu.resendTimer := rfl

@[simp] theorem tellFaulted_nu_due (c : Fin 16) (b : Bool) (s : State) : (tellFaulted c b s).nu.due = s.nu.due := rfl

@[simp] theorem tellFaulted_point (c : Fin 16) (b : Bool) (s : State) (i : Fin 256) : (tellFaulted c b s).point i = s.point i := rfl

@[simp] theorem tellFaulted_reg (c : Fin 16) (b : Bool) (s : State) (i : Fin 32) : (tellFaulted c b s).reg i = s.reg i := rfl

@[simp] theorem tellFaulted_sup (c : Fin 16) (b : Bool) (s : State) (i : Fin 32) : (tellFaulted c b s).sup i = s.sup i := rfl

@[simp] theorem tellFaulted_chan (c : Fin 16) (b : Bool) (s : State) (i : Fin 16) : (tellFaulted c b s).chan i = s.chan i := rfl

@[simp] theorem tellStalled_timebase (r : Fin 32) (b : Bool) (s : State) : (tellStalled r b s).timebase = s.timebase := rfl

@[simp] theorem tellStalled_ci (r : Fin 32) (b : Bool) (s : State) : (tellStalled r b s).ci = s.ci := rfl

@[simp] theorem tellStalled_points (r : Fin 32) (b : Bool) (s : State) : (tellStalled r b s).points = s.points := rfl

@[simp] theorem tellStalled_regs (r : Fin 32) (b : Bool) (s : State) : (tellStalled r b s).regs = s.regs := rfl

@[simp] theorem tellStalled_om (r : Fin 32) (b : Bool) (s : State) : (tellStalled r b s).om = s.om := rfl

@[simp] theorem tellStalled_sups (r : Fin 32) (b : Bool) (s : State) : (tellStalled r b s).sups = s.sups := rfl

@[simp] theorem tellStalled_chans (r : Fin 32) (b : Bool) (s : State) : (tellStalled r b s).chans = s.chans := rfl

@[simp] theorem tellStalled_ru (r : Fin 32) (b : Bool) (s : State) : (tellStalled r b s).ru = s.ru := rfl

@[simp] theorem tellStalled_sweep (r : Fin 32) (b : Bool) (s : State) : (tellStalled r b s).sweep = s.sweep := rfl

@[simp] theorem tellStalled_counters (r : Fin 32) (b : Bool) (s : State) : (tellStalled r b s).counters = s.counters := rfl

@[simp] theorem tellStalled_pending (r : Fin 32) (b : Bool) (s : State) : (tellStalled r b s).pending = s.pending := rfl

@[simp] theorem tellStalled_turns (r : Fin 32) (b : Bool) (s : State) : (tellStalled r b s).turns = s.turns := rfl

@[simp] theorem tellStalled_nu_inFlight (r : Fin 32) (b : Bool) (s : State) : (tellStalled r b s).nu.inFlight = s.nu.inFlight := rfl

@[simp] theorem tellStalled_nu_unsent (r : Fin 32) (b : Bool) (s : State) : (tellStalled r b s).nu.unsent = s.nu.unsent := rfl

@[simp] theorem tellStalled_nu_nextSequence (r : Fin 32) (b : Bool) (s : State) : (tellStalled r b s).nu.nextSequence = s.nu.nextSequence := rfl

@[simp] theorem tellStalled_nu_lost (r : Fin 32) (b : Bool) (s : State) : (tellStalled r b s).nu.lost = s.nu.lost := rfl

@[simp] theorem tellStalled_nu_resendTimer (r : Fin 32) (b : Bool) (s : State) : (tellStalled r b s).nu.resendTimer = s.nu.resendTimer := rfl

@[simp] theorem tellStalled_nu_due (r : Fin 32) (b : Bool) (s : State) : (tellStalled r b s).nu.due = s.nu.due := rfl

@[simp] theorem tellStalled_point (r : Fin 32) (b : Bool) (s : State) (i : Fin 256) : (tellStalled r b s).point i = s.point i := rfl

@[simp] theorem tellStalled_reg (r : Fin 32) (b : Bool) (s : State) (i : Fin 32) : (tellStalled r b s).reg i = s.reg i := rfl

@[simp] theorem tellStalled_sup (r : Fin 32) (b : Bool) (s : State) (i : Fin 32) : (tellStalled r b s).sup i = s.sup i := rfl

@[simp] theorem tellStalled_chan (r : Fin 32) (b : Bool) (s : State) (i : Fin 16) : (tellStalled r b s).chan i = s.chan i := rfl

end Sys2Proof.Machine
end

