-- ==== Sys2Proof/Laws/Blocks.lean ====
section
/-! SUPPORT. Which fields of the state each shared operation of the Request Unit, the channels, the regulators and the Override Monitor
leaves as they were, and that none of them changes a configuration. -/

namespace Sys2Proof.Machine

variable (s : State)

/-! ## formReply -/

@[simp] theorem formReply_timebase (p : Reply) : (formReply p s).timebase = s.timebase := by
  unfold formReply; try dsimp only
  (repeat' split) <;> simp

@[simp] theorem formReply_ci (p : Reply) : (formReply p s).ci = s.ci := by
  unfold formReply; try dsimp only
  (repeat' split) <;> simp

@[simp] theorem formReply_points (p : Reply) : (formReply p s).points = s.points := by
  unfold formReply; try dsimp only
  (repeat' split) <;> simp

@[simp] theorem formReply_regs (p : Reply) : (formReply p s).regs = s.regs := by
  unfold formReply; try dsimp only
  (repeat' split) <;> simp

@[simp] theorem formReply_om (p : Reply) : (formReply p s).om = s.om := by
  unfold formReply; try dsimp only
  (repeat' split) <;> simp

@[simp] theorem formReply_sups (p : Reply) : (formReply p s).sups = s.sups := by
  unfold formReply; try dsimp only
  (repeat' split) <;> simp

@[simp] theorem formReply_chans (p : Reply) : (formReply p s).chans = s.chans := by
  unfold formReply; try dsimp only
  (repeat' split) <;> simp

@[simp] theorem formReply_sweep (p : Reply) : (formReply p s).sweep = s.sweep := by
  unfold formReply; try dsimp only
  (repeat' split) <;> simp

@[simp] theorem formReply_pending (p : Reply) : (formReply p s).pending = s.pending := by
  unfold formReply; try dsimp only
  (repeat' split) <;> simp

@[simp] theorem formReply_turns (p : Reply) : (formReply p s).turns = s.turns := by
  unfold formReply; try dsimp only
  (repeat' split) <;> simp

@[simp] theorem formReply_point (p : Reply) (i : Fin 256) : (formReply p s).point i = s.point i := by
  simp only [State.point, formReply_points]

@[simp] theorem formReply_reg (p : Reply) (i : Fin 32) : (formReply p s).reg i = s.reg i := by
  simp only [State.reg, formReply_regs]

@[simp] theorem formReply_sup (p : Reply) (i : Fin 32) : (formReply p s).sup i = s.sup i := by
  simp only [State.sup, formReply_sups]

@[simp] theorem formReply_chan (p : Reply) (i : Fin 16) : (formReply p s).chan i = s.chan i := by
  simp only [State.chan, formReply_chans]

/-! ## completeEntry -/

@[simp] theorem completeEntry_timebase (ref : EntryRef) (code : RequestCode) (status : Status) (data : List Byte) : (completeEntry ref code status data s).timebase = s.timebase := by
  unfold completeEntry; try dsimp only
  (repeat' split) <;> simp

@[simp] theorem completeEntry_ci (ref : EntryRef) (code : RequestCode) (status : Status) (data : List Byte) : (completeEntry ref code status data s).ci = s.ci := by
  unfold completeEntry; try dsimp only
  (repeat' split) <;> simp

@[simp] theorem completeEntry_points (ref : EntryRef) (code : RequestCode) (status : Status) (data : List Byte) : (completeEntry ref code status data s).points = s.points := by
  unfold completeEntry; try dsimp only
  (repeat' split) <;> simp

@[simp] theorem completeEntry_regs (ref : EntryRef) (code : RequestCode) (status : Status) (data : List Byte) : (completeEntry ref code status data s).regs = s.regs := by
  unfold completeEntry; try dsimp only
  (repeat' split) <;> simp

@[simp] theorem completeEntry_om (ref : EntryRef) (code : RequestCode) (status : Status) (data : List Byte) : (completeEntry ref code status data s).om = s.om := by
  unfold completeEntry; try dsimp only
  (repeat' split) <;> simp

@[simp] theorem completeEntry_sups (ref : EntryRef) (code : RequestCode) (status : Status) (data : List Byte) : (completeEntry ref code status data s).sups = s.sups := by
  unfold completeEntry; try dsimp only
  (repeat' split) <;> simp

@[simp] theorem completeEntry_chans (ref : EntryRef) (code : RequestCode) (status : Status) (data : List Byte) : (completeEntry ref code status data s).chans = s.chans := by
  unfold completeEntry; try dsimp only
  (repeat' split) <;> simp

@[simp] theorem completeEntry_sweep (ref : EntryRef) (code : RequestCode) (status : Status) (data : List Byte) : (completeEntry ref code status data s).sweep = s.sweep := by
  unfold completeEntry; try dsimp only
  (repeat' split) <;> simp

@[simp] theorem completeEntry_pending (ref : EntryRef) (code : RequestCode) (status : Status) (data : List Byte) : (completeEntry ref code status data s).pending = s.pending := by
  unfold completeEntry; try dsimp only
  (repeat' split) <;> simp

@[simp] theorem completeEntry_turns (ref : EntryRef) (code : RequestCode) (status : Status) (data : List Byte) : (completeEntry ref code status data s).turns = s.turns := by
  unfold completeEntry; try dsimp only
  (repeat' split) <;> simp

@[simp] theorem completeEntry_point (ref : EntryRef) (code : RequestCode) (status : Status) (data : List Byte) (i : Fin 256) : (completeEntry ref code status data s).point i = s.point i := by
  simp only [State.point, completeEntry_points]

@[simp] theorem completeEntry_reg (ref : EntryRef) (code : RequestCode) (status : Status) (data : List Byte) (i : Fin 32) : (completeEntry ref code status data s).reg i = s.reg i := by
  simp only [State.reg, completeEntry_regs]

@[simp] theorem completeEntry_sup (ref : EntryRef) (code : RequestCode) (status : Status) (data : List Byte) (i : Fin 32) : (completeEntry ref code status data s).sup i = s.sup i := by
  simp only [State.sup, completeEntry_sups]

@[simp] theorem completeEntry_chan (ref : EntryRef) (code : RequestCode) (status : Status) (data : List Byte) (i : Fin 16) : (completeEntry ref code status data s).chan i = s.chan i := by
  simp only [State.chan, completeEntry_chans]

/-! ## finish -/

@[simp] theorem finish_timebase (q : Request) (v : Verdict) : (finish q v s).timebase = s.timebase := by
  unfold finish; try dsimp only
  (repeat' split) <;> simp

@[simp] theorem finish_ci (q : Request) (v : Verdict) : (finish q v s).ci = s.ci := by
  unfold finish; try dsimp only
  (repeat' split) <;> simp

@[simp] theorem finish_points (q : Request) (v : Verdict) : (finish q v s).points = s.points := by
  unfold finish; try dsimp only
  (repeat' split) <;> simp

@[simp] theorem finish_regs (q : Request) (v : Verdict) : (finish q v s).regs = s.regs := by
  unfold finish; try dsimp only
  (repeat' split) <;> simp

@[simp] theorem finish_om (q : Request) (v : Verdict) : (finish q v s).om = s.om := by
  unfold finish; try dsimp only
  (repeat' split) <;> simp

@[simp] theorem finish_sups (q : Request) (v : Verdict) : (finish q v s).sups = s.sups := by
  unfold finish; try dsimp only
  (repeat' split) <;> simp

@[simp] theorem finish_chans (q : Request) (v : Verdict) : (finish q v s).chans = s.chans := by
  unfold finish; try dsimp only
  (repeat' split) <;> simp

@[simp] theorem finish_sweep (q : Request) (v : Verdict) : (finish q v s).sweep = s.sweep := by
  unfold finish; try dsimp only
  (repeat' split) <;> simp

@[simp] theorem finish_pending (q : Request) (v : Verdict) : (finish q v s).pending = s.pending := by
  unfold finish; try dsimp only
  (repeat' split) <;> simp

@[simp] theorem finish_turns (q : Request) (v : Verdict) : (finish q v s).turns = s.turns := by
  unfold finish; try dsimp only
  (repeat' split) <;> simp

@[simp] theorem finish_point (q : Request) (v : Verdict) (i : Fin 256) : (finish q v s).point i = s.point i := by
  simp only [State.point, finish_points]

@[simp] theorem finish_reg (q : Request) (v : Verdict) (i : Fin 32) : (finish q v s).reg i = s.reg i := by
  simp only [State.reg, finish_regs]

@[simp] theorem finish_sup (q : Request) (v : Verdict) (i : Fin 32) : (finish q v s).sup i = s.sup i := by
  simp only [State.sup, finish_sups]

@[simp] theorem finish_chan (q : Request) (v : Verdict) (i : Fin 16) : (finish q v s).chan i = s.chan i := by
  simp only [State.chan, finish_chans]

/-! ## Channel records -/

@[simp] theorem Channel.sendCheck_config (k : Channel) : k.sendCheck.config = k.config := by
  unfold Channel.sendCheck; split <;> rfl

@[simp] theorem Channel.sendCheck_acked (k : Channel) : k.sendCheck.acked = k.acked := by
  unfold Channel.sendCheck; split <;> rfl

@[simp] theorem Channel.sendCheck_desired (k : Channel) : k.sendCheck.desired = k.desired := by
  unfold Channel.sendCheck; split <;> rfl

@[simp] theorem Channel.markOpened_config (k : Channel) : k.markOpened.config = k.config := by
  unfold Channel.markOpened; split <;> rfl

@[simp] theorem Channel.markOpened_acked (k : Channel) : k.markOpened.acked = k.acked := by
  unfold Channel.markOpened; split <;> rfl

@[simp] theorem Channel.markOpened_desired (k : Channel) : k.markOpened.desired = k.desired := by
  unfold Channel.markOpened; split <;> rfl

@[simp] theorem Channel.writeDesired_config (l : Nat) (k : Channel) : (k.writeDesired l).config = k.config := by
  unfold Channel.writeDesired; split <;> simp

@[simp] theorem Channel.writeDesired_acked (l : Nat) (k : Channel) : (k.writeDesired l).acked = k.acked := by
  unfold Channel.writeDesired; split <;> simp

/-- R116: a write replaces desired with the level written, in every state. -/
@[simp] theorem Channel.writeDesired_desired (l : Nat) (k : Channel) : (k.writeDesired l).desired = some l := by
  unfold Channel.writeDesired; split <;> simp

/-! ## writeDesired -/

@[simp] theorem writeDesired_timebase (c : Fin 16) (l : Nat) : (writeDesired c l s).timebase = s.timebase := rfl

@[simp] theorem writeDesired_ci (c : Fin 16) (l : Nat) : (writeDesired c l s).ci = s.ci := rfl

@[simp] theorem writeDesired_points (c : Fin 16) (l : Nat) : (writeDesired c l s).points = s.points := rfl

@[simp] theorem writeDesired_regs (c : Fin 16) (l : Nat) : (writeDesired c l s).regs = s.regs := rfl

@[simp] theorem writeDesired_om (c : Fin 16) (l : Nat) : (writeDesired c l s).om = s.om := rfl

@[simp] theorem writeDesired_sups (c : Fin 16) (l : Nat) : (writeDesired c l s).sups = s.sups := rfl

@[simp] theorem writeDesired_ru (c : Fin 16) (l : Nat) : (writeDesired c l s).ru = s.ru := rfl

@[simp] theorem writeDesired_nu (c : Fin 16) (l : Nat) : (writeDesired c l s).nu = s.nu := rfl

@[simp] theorem writeDesired_sweep (c : Fin 16) (l : Nat) : (writeDesired c l s).sweep = s.sweep := rfl

@[simp] theorem writeDesired_counters (c : Fin 16) (l : Nat) : (writeDesired c l s).counters = s.counters := rfl

@[simp] theorem writeDesired_pending (c : Fin 16) (l : Nat) : (writeDesired c l s).pending = s.pending := rfl

@[simp] theorem writeDesired_turns (c : Fin 16) (l : Nat) : (writeDesired c l s).turns = s.turns := rfl

@[simp] theorem writeDesired_point (c : Fin 16) (l : Nat) (i : Fin 256) : (writeDesired c l s).point i = s.point i := by
  simp only [State.point, writeDesired_points]

@[simp] theorem writeDesired_reg (c : Fin 16) (l : Nat) (i : Fin 32) : (writeDesired c l s).reg i = s.reg i := by
  simp only [State.reg, writeDesired_regs]

@[simp] theorem writeDesired_sup (c : Fin 16) (l : Nat) (i : Fin 32) : (writeDesired c l s).sup i = s.sup i := by
  simp only [State.sup, writeDesired_sups]

/-- A desired-level write reaches its own channel. -/
@[simp] theorem writeDesired_self (c : Fin 16) (l : Nat) : (writeDesired c l s).chan c = (s.chan c).writeDesired l := by
  simp [writeDesired]

/-- A desired-level write leaves every other channel as it was. -/
theorem writeDesired_ne {c d : Fin 16} (l : Nat) (h : d ≠ c) : (writeDesired c l s).chan d = s.chan d := State.setChan_ne s _ h

@[simp] theorem writeDesired_chan_config (c : Fin 16) (l : Nat) (d : Fin 16) : ((writeDesired c l s).chan d).config = (s.chan d).config := by
  by_cases h : d = c
  · subst h; simp
  · rw [writeDesired_ne s l h]

@[simp] theorem writeDesired_chan_acked (c : Fin 16) (l : Nat) (d : Fin 16) : ((writeDesired c l s).chan d).acked = (s.chan d).acked := by
  by_cases h : d = c
  · subst h; simp
  · rw [writeDesired_ne s l h]

/-- Writing a record of the Regulator Table that keeps configuration and curve keeps those of every record. -/
theorem setReg_config {r : Fin 32} {g : Regulator} (h : g.config = (s.reg r).config) (q : Fin 32) :
    ((s.setReg r g).reg q).config = (s.reg q).config := by
  rw [State.setReg_read]; split
  · next e => rw [e, h]
  · rfl

theorem setReg_curve {r : Fin 32} {g : Regulator} (h : g.curve = (s.reg r).curve) (q : Fin 32) :
    ((s.setReg r g).reg q).curve = (s.reg q).curve := by
  rw [State.setReg_read]; split
  · next e => rw [e, h]
  · rfl

/-! ## startPeriod -/

@[simp] theorem startPeriod_timebase (r : Fin 32) : (startPeriod r s).timebase = s.timebase := rfl

@[simp] theorem startPeriod_ci (r : Fin 32) : (startPeriod r s).ci = s.ci := rfl

@[simp] theorem startPeriod_points (r : Fin 32) : (startPeriod r s).points = s.points := rfl

@[simp] theorem startPeriod_om (r : Fin 32) : (startPeriod r s).om = s.om := rfl

@[simp] theorem startPeriod_sups (r : Fin 32) : (startPeriod r s).sups = s.sups := rfl

@[simp] theorem startPeriod_chans (r : Fin 32) : (startPeriod r s).chans = s.chans := rfl

@[simp] theorem startPeriod_ru (r : Fin 32) : (startPeriod r s).ru = s.ru := rfl

@[simp] theorem startPeriod_nu (r : Fin 32) : (startPeriod r s).nu = s.nu := rfl

@[simp] theorem startPeriod_sweep (r : Fin 32) : (startPeriod r s).sweep = s.sweep := rfl

@[simp] theorem startPeriod_counters (r : Fin 32) : (startPeriod r s).counters = s.counters := rfl

@[simp] theorem startPeriod_pending (r : Fin 32) : (startPeriod r s).pending = s.pending := rfl

@[simp] theorem startPeriod_turns (r : Fin 32) : (startPeriod r s).turns = s.turns := rfl

@[simp] theorem startPeriod_point (r : Fin 32) (i : Fin 256) : (startPeriod r s).point i = s.point i := by
  simp only [State.point, startPeriod_points]

@[simp] theorem startPeriod_sup (r : Fin 32) (i : Fin 32) : (startPeriod r s).sup i = s.sup i := by
  simp only [State.sup, startPeriod_sups]

@[simp] theorem startPeriod_chan (r : Fin 32) (i : Fin 16) : (startPeriod r s).chan i = s.chan i := by
  simp only [State.chan, startPeriod_chans]

@[simp] theorem startPeriod_reg_config (r i : Fin 32) : ((startPeriod r s).reg i).config = (s.reg i).config :=
  setReg_config s (g := { s.reg r with periodTimer := s.startTimer (hundredMs (s.reg r).config.period) }) rfl i

@[simp] theorem startPeriod_reg_curve (r i : Fin 32) : ((startPeriod r s).reg i).curve = (s.reg i).curve :=
  setReg_curve s (g := { s.reg r with periodTimer := s.startTimer (hundredMs (s.reg r).config.period) }) rfl i

@[simp] theorem startPeriod_reg_state (r i : Fin 32) : ((startPeriod r s).reg i).state = (s.reg i).state := by
  unfold startPeriod; rw [State.setReg_read]; split
  · next e => rw [e]
  · rfl

/-! ## raiseRegState -/

@[simp] theorem raiseRegState_timebase (r : Fin 32) (x : RegulatorState) (v : Severity) : (raiseRegState r x v s).timebase = s.timebase := by
  simp [raiseRegState]

@[simp] theorem raiseRegState_ci (r : Fin 32) (x : RegulatorState) (v : Severity) : (raiseRegState r x v s).ci = s.ci := by
  simp [raiseRegState]

@[simp] theorem raiseRegState_points (r : Fin 32) (x : RegulatorState) (v : Severity) : (raiseRegState r x v s).points = s.points := by
  simp [raiseRegState]

@[simp] theorem raiseRegState_regs (r : Fin 32) (x : RegulatorState) (v : Severity) : (raiseRegState r x v s).regs = s.regs := by
  simp [raiseRegState]

@[simp] theorem raiseRegState_om (r : Fin 32) (x : RegulatorState) (v : Severity) : (raiseRegState r x v s).om = s.om := by
  simp [raiseRegState]

@[simp] theorem raiseRegState_sups (r : Fin 32) (x : RegulatorState) (v : Severity) : (raiseRegState r x v s).sups = s.sups := by
  simp [raiseRegState]

@[simp] theorem raiseRegState_chans (r : Fin 32) (x : RegulatorState) (v : Severity) : (raiseRegState r x v s).chans = s.chans := by
  simp [raiseRegState]

@[simp] theorem raiseRegState_ru (r : Fin 32) (x : RegulatorState) (v : Severity) : (raiseRegState r x v s).ru = s.ru := by
  simp [raiseRegState]

@[simp] theorem raiseRegState_sweep (r : Fin 32) (x : RegulatorState) (v : Severity) : (raiseRegState r x v s).sweep = s.sweep := by
  simp [raiseRegState]

@[simp] theorem raiseRegState_pending (r : Fin 32) (x : RegulatorState) (v : Severity) : (raiseRegState r x v s).pending = s.pending := by
  simp [raiseRegState]

@[simp] theorem raiseRegState_turns (r : Fin 32) (x : RegulatorState) (v : Severity) : (raiseRegState r x v s).turns = s.turns := by
  simp [raiseRegState]

@[simp] theorem raiseRegState_point (r : Fin 32) (x : RegulatorState) (v : Severity) (i : Fin 256) : (raiseRegState r x v s).point i = s.point i := by
  simp only [State.point, raiseRegState_points]

@[simp] theorem raiseRegState_reg (r : Fin 32) (x : RegulatorState) (v : Severity) (i : Fin 32) : (raiseRegState r x v s).reg i = s.reg i := by
  simp only [State.reg, raiseRegState_regs]

@[simp] theorem raiseRegState_sup (r : Fin 32) (x : RegulatorState) (v : Severity) (i : Fin 32) : (raiseRegState r x v s).sup i = s.sup i := by
  simp only [State.sup, raiseRegState_sups]

@[simp] theorem raiseRegState_chan (r : Fin 32) (x : RegulatorState) (v : Severity) (i : Fin 16) : (raiseRegState r x v s).chan i = s.chan i := by
  simp only [State.chan, raiseRegState_chans]

/-! ## evaluateStale -/

@[simp] theorem evaluateStale_timebase (notes : Bool) (r : Fin 32) : (evaluateStale notes r s).timebase = s.timebase := by
  unfold evaluateStale; try dsimp only
  (repeat' split) <;> simp

@[simp] theorem evaluateStale_ci (notes : Bool) (r : Fin 32) : (evaluateStale notes r s).ci = s.ci := by
  unfold evaluateStale; try dsimp only
  (repeat' split) <;> simp

@[simp] theorem evaluateStale_points (notes : Bool) (r : Fin 32) : (evaluateStale notes r s).points = s.points := by
  unfold evaluateStale; try dsimp only
  (repeat' split) <;> simp

@[simp] theorem evaluateStale_om (notes : Bool) (r : Fin 32) : (evaluateStale notes r s).om = s.om := by
  unfold evaluateStale; try dsimp only
  (repeat' split) <;> simp

@[simp] theorem evaluateStale_sups (notes : Bool) (r : Fin 32) : (evaluateStale notes r s).sups = s.sups := by
  unfold evaluateStale; try dsimp only
  (repeat' split) <;> simp

@[simp] theorem evaluateStale_ru (notes : Bool) (r : Fin 32) : (evaluateStale notes r s).ru = s.ru := by
  unfold evaluateStale; try dsimp only
  (repeat' split) <;> simp

@[simp] theorem evaluateStale_sweep (notes : Bool) (r : Fin 32) : (evaluateStale notes r s).sweep = s.sweep := by
  unfold evaluateStale; try dsimp only
  (repeat' split) <;> simp

@[simp] theorem evaluateStale_pending (notes : Bool) (r : Fin 32) : (evaluateStale notes r s).pending = s.pending := by
  unfold evaluateStale; try dsimp only
  (repeat' split) <;> simp

@[simp] theorem evaluateStale_turns (notes : Bool) (r : Fin 32) : (evaluateStale notes r s).turns = s.turns := by
  unfold evaluateStale; try dsimp only
  (repeat' split) <;> simp

@[simp] theorem evaluateStale_point (notes : Bool) (r : Fin 32) (i : Fin 256) : (evaluateStale notes r s).point i = s.point i := by
  simp only [State.point, evaluateStale_points]

@[simp] theorem evaluateStale_sup (notes : Bool) (r : Fin 32) (i : Fin 32) : (evaluateStale notes r s).sup i = s.sup i := by
  simp only [State.sup, evaluateStale_sups]

@[simp] theorem evaluateStale_reg_config (notes : Bool) (r : Fin 32) (i : Fin 32) : ((evaluateStale notes r s).reg i).config = (s.reg i).config := by
  unfold evaluateStale; dsimp only; rw [writeDesired_reg]; split <;> simp [setReg_config]

@[simp] theorem evaluateStale_reg_curve (notes : Bool) (r : Fin 32) (i : Fin 32) : ((evaluateStale notes r s).reg i).curve = (s.reg i).curve := by
  unfold evaluateStale; dsimp only; rw [writeDesired_reg]; split <;> simp [setReg_curve]

@[simp] theorem evaluateStale_chan_config (notes : Bool) (r : Fin 32) (i : Fin 16) : ((evaluateStale notes r s).chan i).config = (s.chan i).config := by
  unfold evaluateStale; try dsimp only
  (repeat' split) <;> simp

@[simp] theorem evaluateStale_chan_acked (notes : Bool) (r : Fin 32) (i : Fin 16) : ((evaluateStale notes r s).chan i).acked = (s.chan i).acked := by
  unfold evaluateStale; try dsimp only
  (repeat' split) <;> simp

/-! ## evaluateFresh -/

@[simp] theorem evaluateFresh_timebase (notes : Bool) (vs : List Int) (r : Fin 32) : (evaluateFresh notes vs r s).timebase = s.timebase := by
  unfold evaluateFresh; try dsimp only
  (repeat' split) <;> simp

@[simp] theorem evaluateFresh_ci (notes : Bool) (vs : List Int) (r : Fin 32) : (evaluateFresh notes vs r s).ci = s.ci := by
  unfold evaluateFresh; try dsimp only
  (repeat' split) <;> simp

@[simp] theorem evaluateFresh_points (notes : Bool) (vs : List Int) (r : Fin 32) : (evaluateFresh notes vs r s).points = s.points := by
  unfold evaluateFresh; try dsimp only
  (repeat' split) <;> simp

@[simp] theorem evaluateFresh_om (notes : Bool) (vs : List Int) (r : Fin 32) : (evaluateFresh notes vs r s).om = s.om := by
  unfold evaluateFresh; try dsimp only
  (repeat' split) <;> simp

@[simp] theorem evaluateFresh_sups (notes : Bool) (vs : List Int) (r : Fin 32) : (evaluateFresh notes vs r s).sups = s.sups := by
  unfold evaluateFresh; try dsimp only
  (repeat' split) <;> simp

@[simp] theorem evaluateFresh_ru (notes : Bool) (vs : List Int) (r : Fin 32) : (evaluateFresh notes vs r s).ru = s.ru := by
  unfold evaluateFresh; try dsimp only
  (repeat' split) <;> simp

@[simp] theorem evaluateFresh_sweep (notes : Bool) (vs : List Int) (r : Fin 32) : (evaluateFresh notes vs r s).sweep = s.sweep := by
  unfold evaluateFresh; try dsimp only
  (repeat' split) <;> simp

@[simp] theorem evaluateFresh_pending (notes : Bool) (vs : List Int) (r : Fin 32) : (evaluateFresh notes vs r s).pending = s.pending := by
  unfold evaluateFresh; try dsimp only
  (repeat' split) <;> simp

@[simp] theorem evaluateFresh_turns (notes : Bool) (vs : List Int) (r : Fin 32) : (evaluateFresh notes vs r s).turns = s.turns := by
  unfold evaluateFresh; try dsimp only
  (repeat' split) <;> simp

@[simp] theorem evaluateFresh_point (notes : Bool) (vs : List Int) (r : Fin 32) (i : Fin 256) : (evaluateFresh notes vs r s).point i = s.point i := by
  simp only [State.point, evaluateFresh_points]

@[simp] theorem evaluateFresh_sup (notes : Bool) (vs : List Int) (r : Fin 32) (i : Fin 32) : (evaluateFresh notes vs r s).sup i = s.sup i := by
  simp only [State.sup, evaluateFresh_sups]

@[simp] theorem evaluateFresh_reg_config (notes : Bool) (vs : List Int) (r : Fin 32) (i : Fin 32) : ((evaluateFresh notes vs r s).reg i).config = (s.reg i).config := by
  unfold evaluateFresh; dsimp only; rw [writeDesired_reg]; split <;> simp [setReg_config]

@[simp] theorem evaluateFresh_reg_curve (notes : Bool) (vs : List Int) (r : Fin 32) (i : Fin 32) : ((evaluateFresh notes vs r s).reg i).curve = (s.reg i).curve := by
  unfold evaluateFresh; dsimp only; rw [writeDesired_reg]; split <;> simp [setReg_curve]

@[simp] theorem evaluateFresh_chan_config (notes : Bool) (vs : List Int) (r : Fin 32) (i : Fin 16) : ((evaluateFresh notes vs r s).chan i).config = (s.chan i).config := by
  unfold evaluateFresh; try dsimp only
  (repeat' split) <;> simp

@[simp] theorem evaluateFresh_chan_acked (notes : Bool) (vs : List Int) (r : Fin 32) (i : Fin 16) : ((evaluateFresh notes vs r s).chan i).acked = (s.chan i).acked := by
  unfold evaluateFresh; try dsimp only
  (repeat' split) <;> simp

/-! ## evaluate -/

@[simp] theorem evaluate_timebase (notes : Bool) (r : Fin 32) : (evaluate notes r s).timebase = s.timebase := by
  unfold evaluate; try dsimp only
  (repeat' split) <;> simp

@[simp] theorem evaluate_ci (notes : Bool) (r : Fin 32) : (evaluate notes r s).ci = s.ci := by
  unfold evaluate; try dsimp only
  (repeat' split) <;> simp

@[simp] theorem evaluate_points (notes : Bool) (r : Fin 32) : (evaluate notes r s).points = s.points := by
  unfold evaluate; try dsimp only
  (repeat' split) <;> simp

@[simp] theorem evaluate_om (notes : Bool) (r : Fin 32) : (evaluate notes r s).om = s.om := by
  unfold evaluate; try dsimp only
  (repeat' split) <;> simp

@[simp] theorem evaluate_sups (notes : Bool) (r : Fin 32) : (evaluate notes r s).sups = s.sups := by
  unfold evaluate; try dsimp only
  (repeat' split) <;> simp

@[simp] theorem evaluate_ru (notes : Bool) (r : Fin 32) : (evaluate notes r s).ru = s.ru := by
  unfold evaluate; try dsimp only
  (repeat' split) <;> simp

@[simp] theorem evaluate_sweep (notes : Bool) (r : Fin 32) : (evaluate notes r s).sweep = s.sweep := by
  unfold evaluate; try dsimp only
  (repeat' split) <;> simp

@[simp] theorem evaluate_pending (notes : Bool) (r : Fin 32) : (evaluate notes r s).pending = s.pending := by
  unfold evaluate; try dsimp only
  (repeat' split) <;> simp

@[simp] theorem evaluate_turns (notes : Bool) (r : Fin 32) : (evaluate notes r s).turns = s.turns := by
  unfold evaluate; try dsimp only
  (repeat' split) <;> simp

@[simp] theorem evaluate_point (notes : Bool) (r : Fin 32) (i : Fin 256) : (evaluate notes r s).point i = s.point i := by
  simp only [State.point, evaluate_points]

@[simp] theorem evaluate_sup (notes : Bool) (r : Fin 32) (i : Fin 32) : (evaluate notes r s).sup i = s.sup i := by
  simp only [State.sup, evaluate_sups]

@[simp] theorem evaluate_reg_config (notes : Bool) (r : Fin 32) (i : Fin 32) : ((evaluate notes r s).reg i).config = (s.reg i).config := by
  unfold evaluate; try dsimp only
  (repeat' split) <;> simp

@[simp] theorem evaluate_reg_curve (notes : Bool) (r : Fin 32) (i : Fin 32) : ((evaluate notes r s).reg i).curve = (s.reg i).curve := by
  unfold evaluate; try dsimp only
  (repeat' split) <;> simp

@[simp] theorem evaluate_chan_config (notes : Bool) (r : Fin 32) (i : Fin 16) : ((evaluate notes r s).chan i).config = (s.chan i).config := by
  unfold evaluate; try dsimp only
  (repeat' split) <;> simp

@[simp] theorem evaluate_chan_acked (notes : Bool) (r : Fin 32) (i : Fin 16) : ((evaluate notes r s).chan i).acked = (s.chan i).acked := by
  unfold evaluate; try dsimp only
  (repeat' split) <;> simp

/-! ## assertCeiling -/

@[simp] theorem assertCeiling_timebase (r : Fin 32) : (assertCeiling r s).timebase = s.timebase := rfl

@[simp] theorem assertCeiling_ci (r : Fin 32) : (assertCeiling r s).ci = s.ci := rfl

@[simp] theorem assertCeiling_points (r : Fin 32) : (assertCeiling r s).points = s.points := rfl

@[simp] theorem assertCeiling_om (r : Fin 32) : (assertCeiling r s).om = s.om := rfl

@[simp] theorem assertCeiling_sups (r : Fin 32) : (assertCeiling r s).sups = s.sups := rfl

@[simp] theorem assertCeiling_ru (r : Fin 32) : (assertCeiling r s).ru = s.ru := rfl

@[simp] theorem assertCeiling_nu (r : Fin 32) : (assertCeiling r s).nu = s.nu := rfl

@[simp] theorem assertCeiling_sweep (r : Fin 32) : (assertCeiling r s).sweep = s.sweep := rfl

@[simp] theorem assertCeiling_counters (r : Fin 32) : (assertCeiling r s).counters = s.counters := rfl

@[simp] theorem assertCeiling_pending (r : Fin 32) : (assertCeiling r s).pending = s.pending := rfl

@[simp] theorem assertCeiling_turns (r : Fin 32) : (assertCeiling r s).turns = s.turns := rfl

@[simp] theorem assertCeiling_point (r : Fin 32) (i : Fin 256) : (assertCeiling r s).point i = s.point i := by
  simp only [State.point, assertCeiling_points]

@[simp] theorem assertCeiling_sup (r : Fin 32) (i : Fin 32) : (assertCeiling r s).sup i = s.sup i := by
  simp only [State.sup, assertCeiling_sups]

@[simp] theorem assertCeiling_reg_config (r i : Fin 32) : ((assertCeiling r s).reg i).config = (s.reg i).config := by
  unfold assertCeiling; dsimp only; rw [writeDesired_reg]; simp [setReg_config]

@[simp] theorem assertCeiling_reg_curve (r i : Fin 32) : ((assertCeiling r s).reg i).curve = (s.reg i).curve := by
  unfold assertCeiling; dsimp only; rw [writeDesired_reg]; simp [setReg_curve]

@[simp] theorem assertCeiling_chan_config (r : Fin 32) (i : Fin 16) : ((assertCeiling r s).chan i).config = (s.chan i).config := by
  unfold assertCeiling; try dsimp only
  (repeat' split) <;> simp

@[simp] theorem assertCeiling_chan_acked (r : Fin 32) (i : Fin 16) : ((assertCeiling r s).chan i).acked = (s.chan i).acked := by
  unfold assertCeiling; try dsimp only
  (repeat' split) <;> simp

/-! ## entryNotice -/

@[simp] theorem entryNotice_timebase (r : Fin 32) : (entryNotice r s).timebase = s.timebase := by
  unfold entryNotice; try dsimp only
  (repeat' split) <;> simp

@[simp] theorem entryNotice_ci (r : Fin 32) : (entryNotice r s).ci = s.ci := by
  unfold entryNotice; try dsimp only
  (repeat' split) <;> simp

@[simp] theorem entryNotice_points (r : Fin 32) : (entryNotice r s).points = s.points := by
  unfold entryNotice; try dsimp only
  (repeat' split) <;> simp

@[simp] theorem entryNotice_om (r : Fin 32) : (entryNotice r s).om = s.om := by
  unfold entryNotice; try dsimp only
  (repeat' split) <;> simp

@[simp] theorem entryNotice_sups (r : Fin 32) : (entryNotice r s).sups = s.sups := by
  unfold entryNotice; try dsimp only
  (repeat' split) <;> simp

@[simp] theorem entryNotice_ru (r : Fin 32) : (entryNotice r s).ru = s.ru := by
  unfold entryNotice; try dsimp only
  (repeat' split) <;> simp

@[simp] theorem entryNotice_nu (r : Fin 32) : (entryNotice r s).nu = s.nu := by
  unfold entryNotice; try dsimp only
  (repeat' split) <;> simp

@[simp] theorem entryNotice_sweep (r : Fin 32) : (entryNotice r s).sweep = s.sweep := by
  unfold entryNotice; try dsimp only
  (repeat' split) <;> simp

@[simp] theorem entryNotice_counters (r : Fin 32) : (entryNotice r s).counters = s.counters := by
  unfold entryNotice; try dsimp only
  (repeat' split) <;> simp

@[simp] theorem entryNotice_pending (r : Fin 32) : (entryNotice r s).pending = s.pending := by
  unfold entryNotice; try dsimp only
  (repeat' split) <;> simp

@[simp] theorem entryNotice_turns (r : Fin 32) : (entryNotice r s).turns = s.turns := by
  unfold entryNotice; try dsimp only
  (repeat' split) <;> simp

@[simp] theorem entryNotice_point (r : Fin 32) (i : Fin 256) : (entryNotice r s).point i = s.point i := by
  simp only [State.point, entryNotice_points]

@[simp] theorem entryNotice_sup (r : Fin 32) (i : Fin 32) : (entryNotice r s).sup i = s.sup i := by
  simp only [State.sup, entryNotice_sups]

@[simp] theorem entryNotice_reg_config (r : Fin 32) (i : Fin 32) : ((entryNotice r s).reg i).config = (s.reg i).config := by
  unfold entryNotice; try dsimp only
  (repeat' split) <;> simp

@[simp] theorem entryNotice_reg_curve (r : Fin 32) (i : Fin 32) : ((entryNotice r s).reg i).curve = (s.reg i).curve := by
  unfold entryNotice; try dsimp only
  (repeat' split) <;> simp

@[simp] theorem entryNotice_chan_config (r : Fin 32) (i : Fin 16) : ((entryNotice r s).chan i).config = (s.chan i).config := by
  unfold entryNotice; try dsimp only
  (repeat' split) <;> simp

@[simp] theorem entryNotice_chan_acked (r : Fin 32) (i : Fin 16) : ((entryNotice r s).chan i).acked = (s.chan i).acked := by
  unfold entryNotice; try dsimp only
  (repeat' split) <;> simp

/-! ## clearingNotice -/

@[simp] theorem clearingNotice_timebase (r : Fin 32) : (clearingNotice r s).timebase = s.timebase := by
  unfold clearingNotice; try dsimp only
  (repeat' split) <;> simp

@[simp] theorem clearingNotice_ci (r : Fin 32) : (clearingNotice r s).ci = s.ci := by
  unfold clearingNotice; try dsimp only
  (repeat' split) <;> simp

@[simp] theorem clearingNotice_points (r : Fin 32) : (clearingNotice r s).points = s.points := by
  unfold clearingNotice; try dsimp only
  (repeat' split) <;> simp

@[simp] theorem clearingNotice_om (r : Fin 32) : (clearingNotice r s).om = s.om := by
  unfold clearingNotice; try dsimp only
  (repeat' split) <;> simp

@[simp] theorem clearingNotice_sups (r : Fin 32) : (clearingNotice r s).sups = s.sups := by
  unfold clearingNotice; try dsimp only
  (repeat' split) <;> simp

@[simp] theorem clearingNotice_ru (r : Fin 32) : (clearingNotice r s).ru = s.ru := by
  unfold clearingNotice; try dsimp only
  (repeat' split) <;> simp

@[simp] theorem clearingNotice_sweep (r : Fin 32) : (clearingNotice r s).sweep = s.sweep := by
  unfold clearingNotice; try dsimp only
  (repeat' split) <;> simp

@[simp] theorem clearingNotice_pending (r : Fin 32) : (clearingNotice r s).pending = s.pending := by
  unfold clearingNotice; try dsimp only
  (repeat' split) <;> simp

@[simp] theorem clearingNotice_turns (r : Fin 32) : (clearingNotice r s).turns = s.turns := by
  unfold clearingNotice; try dsimp only
  (repeat' split) <;> simp

@[simp] theorem clearingNotice_point (r : Fin 32) (i : Fin 256) : (clearingNotice r s).point i = s.point i := by
  simp only [State.point, clearingNotice_points]

@[simp] theorem clearingNotice_sup (r : Fin 32) (i : Fin 32) : (clearingNotice r s).sup i = s.sup i := by
  simp only [State.sup, clearingNotice_sups]

@[simp] theorem clearingNotice_reg_config (r : Fin 32) (i : Fin 32) : ((clearingNotice r s).reg i).config = (s.reg i).config := by
  unfold clearingNotice; try dsimp only
  (repeat' split) <;> simp

@[simp] theorem clearingNotice_reg_curve (r : Fin 32) (i : Fin 32) : ((clearingNotice r s).reg i).curve = (s.reg i).curve := by
  unfold clearingNotice; try dsimp only
  (repeat' split) <;> simp

@[simp] theorem clearingNotice_chan_config (r : Fin 32) (i : Fin 16) : ((clearingNotice r s).chan i).config = (s.chan i).config := by
  unfold clearingNotice; try dsimp only
  (repeat' split) <;> simp

@[simp] theorem clearingNotice_chan_acked (r : Fin 32) (i : Fin 16) : ((clearingNotice r s).chan i).acked = (s.chan i).acked := by
  unfold clearingNotice; try dsimp only
  (repeat' split) <;> simp

/-! ## resumeControl -/

@[simp] theorem resumeControl_timebase (r : Fin 32) : (resumeControl r s).timebase = s.timebase := by
  unfold resumeControl; try dsimp only
  (repeat' split) <;> simp

@[simp] theorem resumeControl_ci (r : Fin 32) : (resumeControl r s).ci = s.ci := by
  unfold resumeControl; try dsimp only
  (repeat' split) <;> simp

@[simp] theorem resumeControl_points (r : Fin 32) : (resumeControl r s).points = s.points := by
  unfold resumeControl; try dsimp only
  (repeat' split) <;> simp

@[simp] theorem resumeControl_om (r : Fin 32) : (resumeControl r s).om = s.om := by
  unfold resumeControl; try dsimp only
  (repeat' split) <;> simp

@[simp] theorem resumeControl_sups (r : Fin 32) : (resumeControl r s).sups = s.sups := by
  unfold resumeControl; try dsimp only
  (repeat' split) <;> simp

@[simp] theorem resumeControl_ru (r : Fin 32) : (resumeControl r s).ru = s.ru := by
  unfold resumeControl; try dsimp only
  (repeat' split) <;> simp

@[simp] theorem resumeControl_sweep (r : Fin 32) : (resumeControl r s).sweep = s.sweep := by
  unfold resumeControl; try dsimp only
  (repeat' split) <;> simp

@[simp] theorem resumeControl_pending (r : Fin 32) : (resumeControl r s).pending = s.pending := by
  unfold resumeControl; try dsimp only
  (repeat' split) <;> simp

@[simp] theorem resumeControl_turns (r : Fin 32) : (resumeControl r s).turns = s.turns := by
  unfold resumeControl; try dsimp only
  (repeat' split) <;> simp

@[simp] theorem resumeControl_point (r : Fin 32) (i : Fin 256) : (resumeControl r s).point i = s.point i := by
  simp only [State.point, resumeControl_points]

@[simp] theorem resumeControl_sup (r : Fin 32) (i : Fin 32) : (resumeControl r s).sup i = s.sup i := by
  simp only [State.sup, resumeControl_sups]

@[simp] theorem resumeControl_reg_config (r : Fin 32) (i : Fin 32) : ((resumeControl r s).reg i).config = (s.reg i).config := by
  unfold resumeControl; try dsimp only
  (repeat' split) <;> simp

@[simp] theorem resumeControl_reg_curve (r : Fin 32) (i : Fin 32) : ((resumeControl r s).reg i).curve = (s.reg i).curve := by
  unfold resumeControl; try dsimp only
  (repeat' split) <;> simp

@[simp] theorem resumeControl_chan_config (r : Fin 32) (i : Fin 16) : ((resumeControl r s).chan i).config = (s.chan i).config := by
  unfold resumeControl; try dsimp only
  (repeat' split) <;> simp

@[simp] theorem resumeControl_chan_acked (r : Fin 32) (i : Fin 16) : ((resumeControl r s).chan i).acked = (s.chan i).acked := by
  unfold resumeControl; try dsimp only
  (repeat' split) <;> simp

/-! ## writeManual -/

@[simp] theorem writeManual_timebase (r : Fin 32) : (writeManual r s).timebase = s.timebase := by
  unfold writeManual; try dsimp only
  (repeat' split) <;> simp

@[simp] theorem writeManual_ci (r : Fin 32) : (writeManual r s).ci = s.ci := by
  unfold writeManual; try dsimp only
  (repeat' split) <;> simp

@[simp] theorem writeManual_points (r : Fin 32) : (writeManual r s).points = s.points := by
  unfold writeManual; try dsimp only
  (repeat' split) <;> simp

@[simp] theorem writeManual_regs (r : Fin 32) : (writeManual r s).regs = s.regs := by
  unfold writeManual; try dsimp only
  (repeat' split) <;> simp

@[simp] theorem writeManual_om (r : Fin 32) : (writeManual r s).om = s.om := by
  unfold writeManual; try dsimp only
  (repeat' split) <;> simp

@[simp] theorem writeManual_sups (r : Fin 32) : (writeManual r s).sups = s.sups := by
  unfold writeManual; try dsimp only
  (repeat' split) <;> simp

@[simp] theorem writeManual_ru (r : Fin 32) : (writeManual r s).ru = s.ru := by
  unfold writeManual; try dsimp only
  (repeat' split) <;> simp

@[simp] theorem writeManual_nu (r : Fin 32) : (writeManual r s).nu = s.nu := by
  unfold writeManual; try dsimp only
  (repeat' split) <;> simp

@[simp] theorem writeManual_sweep (r : Fin 32) : (writeManual r s).sweep = s.sweep := by
  unfold writeManual; try dsimp only
  (repeat' split) <;> simp

@[simp] theorem writeManual_counters (r : Fin 32) : (writeManual r s).counters = s.counters := by
  unfold writeManual; try dsimp only
  (repeat' split) <;> simp

@[simp] theorem writeManual_pending (r : Fin 32) : (writeManual r s).pending = s.pending := by
  unfold writeManual; try dsimp only
  (repeat' split) <;> simp

@[simp] theorem writeManual_turns (r : Fin 32) : (writeManual r s).turns = s.turns := by
  unfold writeManual; try dsimp only
  (repeat' split) <;> simp

@[simp] theorem writeManual_point (r : Fin 32) (i : Fin 256) : (writeManual r s).point i = s.point i := by
  simp only [State.point, writeManual_points]

@[simp] theorem writeManual_reg (r : Fin 32) (i : Fin 32) : (writeManual r s).reg i = s.reg i := by
  simp only [State.reg, writeManual_regs]

@[simp] theorem writeManual_sup (r : Fin 32) (i : Fin 32) : (writeManual r s).sup i = s.sup i := by
  simp only [State.sup, writeManual_sups]

@[simp] theorem writeManual_chan_config (r : Fin 32) (i : Fin 16) : ((writeManual r s).chan i).config = (s.chan i).config := by
  unfold writeManual; try dsimp only
  (repeat' split) <;> simp

@[simp] theorem writeManual_chan_acked (r : Fin 32) (i : Fin 16) : ((writeManual r s).chan i).acked = (s.chan i).acked := by
  unfold writeManual; try dsimp only
  (repeat' split) <;> simp

/-! ## completeHandover -/

@[simp] theorem completeHandover_timebase (r : Fin 32) (faulted : Bool) : (completeHandover r faulted s).timebase = s.timebase := by
  unfold completeHandover; try dsimp only
  (repeat' split) <;> simp

@[simp] theorem completeHandover_ci (r : Fin 32) (faulted : Bool) : (completeHandover r faulted s).ci = s.ci := by
  unfold completeHandover; try dsimp only
  (repeat' split) <;> simp

@[simp] theorem completeHandover_points (r : Fin 32) (faulted : Bool) : (completeHandover r faulted s).points = s.points := by
  unfold completeHandover; try dsimp only
  (repeat' split) <;> simp

@[simp] theorem completeHandover_om (r : Fin 32) (faulted : Bool) : (completeHandover r faulted s).om = s.om := by
  unfold completeHandover; try dsimp only
  (repeat' split) <;> simp

@[simp] theorem completeHandover_sups (r : Fin 32) (faulted : Bool) : (completeHandover r faulted s).sups = s.sups := by
  unfold completeHandover; try dsimp only
  (repeat' split) <;> simp

@[simp] theorem completeHandover_sweep (r : Fin 32) (faulted : Bool) : (completeHandover r faulted s).sweep = s.sweep := by
  unfold completeHandover; try dsimp only
  (repeat' split) <;> simp

@[simp] theorem completeHandover_pending (r : Fin 32) (faulted : Bool) : (completeHandover r faulted s).pending = s.pending := by
  unfold completeHandover; try dsimp only
  (repeat' split) <;> simp

@[simp] theorem completeHandover_turns (r : Fin 32) (faulted : Bool) : (completeHandover r faulted s).turns = s.turns := by
  unfold completeHandover; try dsimp only
  (repeat' split) <;> simp

@[simp] theorem completeHandover_point (r : Fin 32) (faulted : Bool) (i : Fin 256) : (completeHandover r faulted s).point i = s.point i := by
  simp only [State.point, completeHandover_points]

@[simp] theorem completeHandover_sup (r : Fin 32) (faulted : Bool) (i : Fin 32) : (completeHandover r faulted s).sup i = s.sup i := by
  simp only [State.sup, completeHandover_sups]

@[simp] theorem completeHandover_reg_config (r : Fin 32) (faulted : Bool) (i : Fin 32) : ((completeHandover r faulted s).reg i).config = (s.reg i).config := by
  unfold completeHandover; dsimp only; split <;> simp [setReg_config]

@[simp] theorem completeHandover_reg_curve (r : Fin 32) (faulted : Bool) (i : Fin 32) : ((completeHandover r faulted s).reg i).curve = (s.reg i).curve := by
  unfold completeHandover; dsimp only; split <;> simp [setReg_curve]

@[simp] theorem completeHandover_chan_config (r : Fin 32) (faulted : Bool) (i : Fin 16) : ((completeHandover r faulted s).chan i).config = (s.chan i).config := by
  unfold completeHandover; try dsimp only
  (repeat' split) <;> simp

@[simp] theorem completeHandover_chan_acked (r : Fin 32) (faulted : Bool) (i : Fin 16) : ((completeHandover r faulted s).chan i).acked = (s.chan i).acked := by
  unfold completeHandover; try dsimp only
  (repeat' split) <;> simp

/-! ## reportEntry -/

@[simp] theorem reportEntry_timebase (c : Fin 16) (faulted : Bool) : (reportEntry c faulted s).timebase = s.timebase := by
  unfold reportEntry; try dsimp only
  (repeat' split) <;> simp

@[simp] theorem reportEntry_ci (c : Fin 16) (faulted : Bool) : (reportEntry c faulted s).ci = s.ci := by
  unfold reportEntry; try dsimp only
  (repeat' split) <;> simp

@[simp] theorem reportEntry_points (c : Fin 16) (faulted : Bool) : (reportEntry c faulted s).points = s.points := by
  unfold reportEntry; try dsimp only
  (repeat' split) <;> simp

@[simp] theorem reportEntry_om (c : Fin 16) (faulted : Bool) : (reportEntry c faulted s).om = s.om := by
  unfold reportEntry; try dsimp only
  (repeat' split) <;> simp

@[simp] theorem reportEntry_sups (c : Fin 16) (faulted : Bool) : (reportEntry c faulted s).sups = s.sups := by
  unfold reportEntry; try dsimp only
  (repeat' split) <;> simp

@[simp] theorem reportEntry_sweep (c : Fin 16) (faulted : Bool) : (reportEntry c faulted s).sweep = s.sweep := by
  unfold reportEntry; try dsimp only
  (repeat' split) <;> simp

@[simp] theorem reportEntry_pending (c : Fin 16) (faulted : Bool) : (reportEntry c faulted s).pending = s.pending := by
  unfold reportEntry; try dsimp only
  (repeat' split) <;> simp

@[simp] theorem reportEntry_turns (c : Fin 16) (faulted : Bool) : (reportEntry c faulted s).turns = s.turns := by
  unfold reportEntry; try dsimp only
  (repeat' split) <;> simp

@[simp] theorem reportEntry_point (c : Fin 16) (faulted : Bool) (i : Fin 256) : (reportEntry c faulted s).point i = s.point i := by
  simp only [State.point, reportEntry_points]

@[simp] theorem reportEntry_sup (c : Fin 16) (faulted : Bool) (i : Fin 32) : (reportEntry c faulted s).sup i = s.sup i := by
  simp only [State.sup, reportEntry_sups]

@[simp] theorem reportEntry_reg_config (c : Fin 16) (faulted : Bool) (i : Fin 32) : ((reportEntry c faulted s).reg i).config = (s.reg i).config := by
  unfold reportEntry; try dsimp only
  (repeat' split) <;> simp

@[simp] theorem reportEntry_reg_curve (c : Fin 16) (faulted : Bool) (i : Fin 32) : ((reportEntry c faulted s).reg i).curve = (s.reg i).curve := by
  unfold reportEntry; try dsimp only
  (repeat' split) <;> simp

@[simp] theorem reportEntry_chan_config (c : Fin 16) (faulted : Bool) (i : Fin 16) : ((reportEntry c faulted s).chan i).config = (s.chan i).config := by
  unfold reportEntry; try dsimp only
  (repeat' split) <;> simp

@[simp] theorem reportEntry_chan_acked (c : Fin 16) (faulted : Bool) (i : Fin 16) : ((reportEntry c faulted s).chan i).acked = (s.chan i).acked := by
  unfold reportEntry; try dsimp only
  (repeat' split) <;> simp

/-! ## cancelHandover -/

@[simp] theorem cancelHandover_timebase (r : Fin 32) : (cancelHandover r s).timebase = s.timebase := by
  unfold cancelHandover; try dsimp only
  (repeat' split) <;> simp

@[simp] theorem cancelHandover_ci (r : Fin 32) : (cancelHandover r s).ci = s.ci := by
  unfold cancelHandover; try dsimp only
  (repeat' split) <;> simp

@[simp] theorem cancelHandover_points (r : Fin 32) : (cancelHandover r s).points = s.points := by
  unfold cancelHandover; try dsimp only
  (repeat' split) <;> simp

@[simp] theorem cancelHandover_regs (r : Fin 32) : (cancelHandover r s).regs = s.regs := by
  unfold cancelHandover; try dsimp only
  (repeat' split) <;> simp

@[simp] theorem cancelHandover_om (r : Fin 32) : (cancelHandover r s).om = s.om := by
  unfold cancelHandover; try dsimp only
  (repeat' split) <;> simp

@[simp] theorem cancelHandover_sups (r : Fin 32) : (cancelHandover r s).sups = s.sups := by
  unfold cancelHandover; try dsimp only
  (repeat' split) <;> simp

@[simp] theorem cancelHandover_chans (r : Fin 32) : (cancelHandover r s).chans = s.chans := by
  unfold cancelHandover; try dsimp only
  (repeat' split) <;> simp

@[simp] theorem cancelHandover_sweep (r : Fin 32) : (cancelHandover r s).sweep = s.sweep := by
  unfold cancelHandover; try dsimp only
  (repeat' split) <;> simp

@[simp] theorem cancelHandover_pending (r : Fin 32) : (cancelHandover r s).pending = s.pending := by
  unfold cancelHandover; try dsimp only
  (repeat' split) <;> simp

@[simp] theorem cancelHandover_turns (r : Fin 32) : (cancelHandover r s).turns = s.turns := by
  unfold cancelHandover; try dsimp only
  (repeat' split) <;> simp

@[simp] theorem cancelHandover_point (r : Fin 32) (i : Fin 256) : (cancelHandover r s).point i = s.point i := by
  simp only [State.point, cancelHandover_points]

@[simp] theorem cancelHandover_reg (r : Fin 32) (i : Fin 32) : (cancelHandover r s).reg i = s.reg i := by
  simp only [State.reg, cancelHandover_regs]

@[simp] theorem cancelHandover_sup (r : Fin 32) (i : Fin 32) : (cancelHandover r s).sup i = s.sup i := by
  simp only [State.sup, cancelHandover_sups]

@[simp] theorem cancelHandover_chan (r : Fin 32) (i : Fin 16) : (cancelHandover r s).chan i = s.chan i := by
  simp only [State.chan, cancelHandover_chans]

/-! ## overrideEntry -/

@[simp] theorem overrideEntry_timebase (p : Fin 256) : (overrideEntry p s).timebase = s.timebase := by
  unfold overrideEntry; dsimp only
  rw [forEachRegulator_field entryNotice (State.timebase) (fun r t => entryNotice_timebase t r)]; simp

@[simp] theorem overrideEntry_ci (p : Fin 256) : (overrideEntry p s).ci = s.ci := by
  unfold overrideEntry; dsimp only
  rw [forEachRegulator_field entryNotice (State.ci) (fun r t => entryNotice_ci t r)]; simp

@[simp] theorem overrideEntry_points (p : Fin 256) : (overrideEntry p s).points = s.points := by
  unfold overrideEntry; dsimp only
  rw [forEachRegulator_field entryNotice (State.points) (fun r t => entryNotice_points t r)]; simp

@[simp] theorem overrideEntry_sups (p : Fin 256) : (overrideEntry p s).sups = s.sups := by
  unfold overrideEntry; dsimp only
  rw [forEachRegulator_field entryNotice (State.sups) (fun r t => entryNotice_sups t r)]; simp

@[simp] theorem overrideEntry_ru (p : Fin 256) : (overrideEntry p s).ru = s.ru := by
  unfold overrideEntry; dsimp only
  rw [forEachRegulator_field entryNotice (State.ru) (fun r t => entryNotice_ru t r)]; simp

@[simp] theorem overrideEntry_sweep (p : Fin 256) : (overrideEntry p s).sweep = s.sweep := by
  unfold overrideEntry; dsimp only
  rw [forEachRegulator_field entryNotice (State.sweep) (fun r t => entryNotice_sweep t r)]; simp

@[simp] theorem overrideEntry_pending (p : Fin 256) : (overrideEntry p s).pending = s.pending := by
  unfold overrideEntry; dsimp only
  rw [forEachRegulator_field entryNotice (State.pending) (fun r t => entryNotice_pending t r)]; simp

@[simp] theorem overrideEntry_turns (p : Fin 256) : (overrideEntry p s).turns = s.turns := by
  unfold overrideEntry; dsimp only
  rw [forEachRegulator_field entryNotice (State.turns) (fun r t => entryNotice_turns t r)]; simp

@[simp] theorem overrideEntry_point (p : Fin 256) (i : Fin 256) : (overrideEntry p s).point i = s.point i := by
  simp only [State.point, overrideEntry_points]

@[simp] theorem overrideEntry_sup (p : Fin 256) (i : Fin 32) : (overrideEntry p s).sup i = s.sup i := by
  simp only [State.sup, overrideEntry_sups]

@[simp] theorem overrideEntry_reg_config (p : Fin 256) (i : Fin 32) : ((overrideEntry p s).reg i).config = (s.reg i).config := by
  unfold overrideEntry; dsimp only
  rw [forEachRegulator_field entryNotice (fun t => (t.reg i).config) (fun r t => entryNotice_reg_config t r i)]; simp

@[simp] theorem overrideEntry_reg_curve (p : Fin 256) (i : Fin 32) : ((overrideEntry p s).reg i).curve = (s.reg i).curve := by
  unfold overrideEntry; dsimp only
  rw [forEachRegulator_field entryNotice (fun t => (t.reg i).curve) (fun r t => entryNotice_reg_curve t r i)]; simp

@[simp] theorem overrideEntry_chan_config (p : Fin 256) (i : Fin 16) : ((overrideEntry p s).chan i).config = (s.chan i).config := by
  unfold overrideEntry; dsimp only
  rw [forEachRegulator_field entryNotice (fun t => (t.chan i).config) (fun r t => entryNotice_chan_config t r i)]; simp

@[simp] theorem overrideEntry_chan_acked (p : Fin 256) (i : Fin 16) : ((overrideEntry p s).chan i).acked = (s.chan i).acked := by
  unfold overrideEntry; dsimp only
  rw [forEachRegulator_field entryNotice (fun t => (t.chan i).acked) (fun r t => entryNotice_chan_acked t r i)]; simp

/-! ## overrideClearing -/

@[simp] theorem overrideClearing_timebase  : (overrideClearing s).timebase = s.timebase := by
  unfold overrideClearing; dsimp only
  rw [forEachRegulator_field clearingNotice (State.timebase) (fun r t => clearingNotice_timebase t r)]; simp

@[simp] theorem overrideClearing_ci  : (overrideClearing s).ci = s.ci := by
  unfold overrideClearing; dsimp only
  rw [forEachRegulator_field clearingNotice (State.ci) (fun r t => clearingNotice_ci t r)]; simp

@[simp] theorem overrideClearing_points  : (overrideClearing s).points = s.points := by
  unfold overrideClearing; dsimp only
  rw [forEachRegulator_field clearingNotice (State.points) (fun r t => clearingNotice_points t r)]; simp

@[simp] theorem overrideClearing_sups  : (overrideClearing s).sups = s.sups := by
  unfold overrideClearing; dsimp only
  rw [forEachRegulator_field clearingNotice (State.sups) (fun r t => clearingNotice_sups t r)]; simp

@[simp] theorem overrideClearing_ru  : (overrideClearing s).ru = s.ru := by
  unfold overrideClearing; dsimp only
  rw [forEachRegulator_field clearingNotice (State.ru) (fun r t => clearingNotice_ru t r)]; simp

@[simp] theorem overrideClearing_sweep  : (overrideClearing s).sweep = s.sweep := by
  unfold overrideClearing; dsimp only
  rw [forEachRegulator_field clearingNotice (State.sweep) (fun r t => clearingNotice_sweep t r)]; simp

@[simp] theorem overrideClearing_pending  : (overrideClearing s).pending = s.pending := by
  unfold overrideClearing; dsimp only
  rw [forEachRegulator_field clearingNotice (State.pending) (fun r t => clearingNotice_pending t r)]; simp

@[simp] theorem overrideClearing_turns  : (overrideClearing s).turns = s.turns := by
  unfold overrideClearing; dsimp only
  rw [forEachRegulator_field clearingNotice (State.turns) (fun r t => clearingNotice_turns t r)]; simp

@[simp] theorem overrideClearing_point  (i : Fin 256) : (overrideClearing s).point i = s.point i := by
  simp only [State.point, overrideClearing_points]

@[simp] theorem overrideClearing_sup  (i : Fin 32) : (overrideClearing s).sup i = s.sup i := by
  simp only [State.sup, overrideClearing_sups]

@[simp] theorem overrideClearing_reg_config (i : Fin 32) : ((overrideClearing s).reg i).config = (s.reg i).config := by
  unfold overrideClearing; dsimp only
  rw [forEachRegulator_field clearingNotice (fun t => (t.reg i).config) (fun r t => clearingNotice_reg_config t r i)]; simp

@[simp] theorem overrideClearing_reg_curve (i : Fin 32) : ((overrideClearing s).reg i).curve = (s.reg i).curve := by
  unfold overrideClearing; dsimp only
  rw [forEachRegulator_field clearingNotice (fun t => (t.reg i).curve) (fun r t => clearingNotice_reg_curve t r i)]; simp

@[simp] theorem overrideClearing_chan_config (i : Fin 16) : ((overrideClearing s).chan i).config = (s.chan i).config := by
  unfold overrideClearing; dsimp only
  rw [forEachRegulator_field clearingNotice (fun t => (t.chan i).config) (fun r t => clearingNotice_chan_config t r i)]; simp

@[simp] theorem overrideClearing_chan_acked (i : Fin 16) : ((overrideClearing s).chan i).acked = (s.chan i).acked := by
  unfold overrideClearing; dsimp only
  rw [forEachRegulator_field clearingNotice (fun t => (t.chan i).acked) (fun r t => clearingNotice_chan_acked t r i)]; simp

/-! ## holdStart -/

@[simp] theorem holdStart_timebase  : (holdStart s).timebase = s.timebase := rfl

@[simp] theorem holdStart_ci  : (holdStart s).ci = s.ci := rfl

@[simp] theorem holdStart_points  : (holdStart s).points = s.points := rfl

@[simp] theorem holdStart_regs  : (holdStart s).regs = s.regs := rfl

@[simp] theorem holdStart_sups  : (holdStart s).sups = s.sups := rfl

@[simp] theorem holdStart_chans  : (holdStart s).chans = s.chans := rfl

@[simp] theorem holdStart_ru  : (holdStart s).ru = s.ru := rfl

@[simp] theorem holdStart_sweep  : (holdStart s).sweep = s.sweep := rfl

@[simp] theorem holdStart_counters  : (holdStart s).counters = s.counters := rfl

@[simp] theorem holdStart_pending  : (holdStart s).pending = s.pending := rfl

@[simp] theorem holdStart_turns  : (holdStart s).turns = s.turns := rfl

@[simp] theorem holdStart_point  (i : Fin 256) : (holdStart s).point i = s.point i := by
  simp only [State.point, holdStart_points]

@[simp] theorem holdStart_reg  (i : Fin 32) : (holdStart s).reg i = s.reg i := by
  simp only [State.reg, holdStart_regs]

@[simp] theorem holdStart_sup  (i : Fin 32) : (holdStart s).sup i = s.sup i := by
  simp only [State.sup, holdStart_sups]

@[simp] theorem holdStart_chan  (i : Fin 16) : (holdStart s).chan i = s.chan i := by
  simp only [State.chan, holdStart_chans]

/-! ## overrideReentry -/

@[simp] theorem overrideReentry_timebase  : (overrideReentry s).timebase = s.timebase := rfl

@[simp] theorem overrideReentry_ci  : (overrideReentry s).ci = s.ci := rfl

@[simp] theorem overrideReentry_points  : (overrideReentry s).points = s.points := rfl

@[simp] theorem overrideReentry_regs  : (overrideReentry s).regs = s.regs := rfl

@[simp] theorem overrideReentry_sups  : (overrideReentry s).sups = s.sups := rfl

@[simp] theorem overrideReentry_chans  : (overrideReentry s).chans = s.chans := rfl

@[simp] theorem overrideReentry_ru  : (overrideReentry s).ru = s.ru := rfl

@[simp] theorem overrideReentry_sweep  : (overrideReentry s).sweep = s.sweep := rfl

@[simp] theorem overrideReentry_counters  : (overrideReentry s).counters = s.counters := rfl

@[simp] theorem overrideReentry_pending  : (overrideReentry s).pending = s.pending := rfl

@[simp] theorem overrideReentry_turns  : (overrideReentry s).turns = s.turns := rfl

@[simp] theorem overrideReentry_point  (i : Fin 256) : (overrideReentry s).point i = s.point i := by
  simp only [State.point, overrideReentry_points]

@[simp] theorem overrideReentry_reg  (i : Fin 32) : (overrideReentry s).reg i = s.reg i := by
  simp only [State.reg, overrideReentry_regs]

@[simp] theorem overrideReentry_sup  (i : Fin 32) : (overrideReentry s).sup i = s.sup i := by
  simp only [State.sup, overrideReentry_sups]

@[simp] theorem overrideReentry_chan  (i : Fin 16) : (overrideReentry s).chan i = s.chan i := by
  simp only [State.chan, overrideReentry_chans]

/-! ## joinCritical -/

@[simp] theorem joinCritical_timebase (p : Fin 256) : (joinCritical p s).timebase = s.timebase := by
  unfold joinCritical; try dsimp only
  (repeat' split) <;> simp

@[simp] theorem joinCritical_ci (p : Fin 256) : (joinCritical p s).ci = s.ci := by
  unfold joinCritical; try dsimp only
  (repeat' split) <;> simp

@[simp] theorem joinCritical_points (p : Fin 256) : (joinCritical p s).points = s.points := by
  unfold joinCritical; try dsimp only
  (repeat' split) <;> simp

@[simp] theorem joinCritical_sups (p : Fin 256) : (joinCritical p s).sups = s.sups := by
  unfold joinCritical; try dsimp only
  (repeat' split) <;> simp

@[simp] theorem joinCritical_ru (p : Fin 256) : (joinCritical p s).ru = s.ru := by
  unfold joinCritical; try dsimp only
  (repeat' split) <;> simp

@[simp] theorem joinCritical_sweep (p : Fin 256) : (joinCritical p s).sweep = s.sweep := by
  unfold joinCritical; try dsimp only
  (repeat' split) <;> simp

@[simp] theorem joinCritical_pending (p : Fin 256) : (joinCritical p s).pending = s.pending := by
  unfold joinCritical; try dsimp only
  (repeat' split) <;> simp

@[simp] theorem joinCritical_turns (p : Fin 256) : (joinCritical p s).turns = s.turns := by
  unfold joinCritical; try dsimp only
  (repeat' split) <;> simp

@[simp] theorem joinCritical_point (p : Fin 256) (i : Fin 256) : (joinCritical p s).point i = s.point i := by
  simp only [State.point, joinCritical_points]

@[simp] theorem joinCritical_sup (p : Fin 256) (i : Fin 32) : (joinCritical p s).sup i = s.sup i := by
  simp only [State.sup, joinCritical_sups]

@[simp] theorem joinCritical_reg_config (p : Fin 256) (i : Fin 32) : ((joinCritical p s).reg i).config = (s.reg i).config := by
  unfold joinCritical; try dsimp only
  (repeat' split) <;> simp

@[simp] theorem joinCritical_reg_curve (p : Fin 256) (i : Fin 32) : ((joinCritical p s).reg i).curve = (s.reg i).curve := by
  unfold joinCritical; try dsimp only
  (repeat' split) <;> simp

@[simp] theorem joinCritical_chan_config (p : Fin 256) (i : Fin 16) : ((joinCritical p s).chan i).config = (s.chan i).config := by
  unfold joinCritical; try dsimp only
  (repeat' split) <;> simp

@[simp] theorem joinCritical_chan_acked (p : Fin 256) (i : Fin 16) : ((joinCritical p s).chan i).acked = (s.chan i).acked := by
  unfold joinCritical; try dsimp only
  (repeat' split) <;> simp

/-! ## leaveCritical -/

@[simp] theorem leaveCritical_timebase (p : Fin 256) : (leaveCritical p s).timebase = s.timebase := by
  unfold leaveCritical; try dsimp only
  (repeat' split) <;> simp

@[simp] theorem leaveCritical_ci (p : Fin 256) : (leaveCritical p s).ci = s.ci := by
  unfold leaveCritical; try dsimp only
  (repeat' split) <;> simp

@[simp] theorem leaveCritical_points (p : Fin 256) : (leaveCritical p s).points = s.points := by
  unfold leaveCritical; try dsimp only
  (repeat' split) <;> simp

@[simp] theorem leaveCritical_sups (p : Fin 256) : (leaveCritical p s).sups = s.sups := by
  unfold leaveCritical; try dsimp only
  (repeat' split) <;> simp

@[simp] theorem leaveCritical_ru (p : Fin 256) : (leaveCritical p s).ru = s.ru := by
  unfold leaveCritical; try dsimp only
  (repeat' split) <;> simp

@[simp] theorem leaveCritical_sweep (p : Fin 256) : (leaveCritical p s).sweep = s.sweep := by
  unfold leaveCritical; try dsimp only
  (repeat' split) <;> simp

@[simp] theorem leaveCritical_pending (p : Fin 256) : (leaveCritical p s).pending = s.pending := by
  unfold leaveCritical; try dsimp only
  (repeat' split) <;> simp

@[simp] theorem leaveCritical_turns (p : Fin 256) : (leaveCritical p s).turns = s.turns := by
  unfold leaveCritical; try dsimp only
  (repeat' split) <;> simp

@[simp] theorem leaveCritical_point (p : Fin 256) (i : Fin 256) : (leaveCritical p s).point i = s.point i := by
  simp only [State.point, leaveCritical_points]

@[simp] theorem leaveCritical_sup (p : Fin 256) (i : Fin 32) : (leaveCritical p s).sup i = s.sup i := by
  simp only [State.sup, leaveCritical_sups]

@[simp] theorem leaveCritical_reg_config (p : Fin 256) (i : Fin 32) : ((leaveCritical p s).reg i).config = (s.reg i).config := by
  unfold leaveCritical; try dsimp only
  (repeat' split) <;> simp

@[simp] theorem leaveCritical_reg_curve (p : Fin 256) (i : Fin 32) : ((leaveCritical p s).reg i).curve = (s.reg i).curve := by
  unfold leaveCritical; try dsimp only
  (repeat' split) <;> simp

@[simp] theorem leaveCritical_chan_config (p : Fin 256) (i : Fin 16) : ((leaveCritical p s).chan i).config = (s.chan i).config := by
  unfold leaveCritical; try dsimp only
  (repeat' split) <;> simp

@[simp] theorem leaveCritical_chan_acked (p : Fin 256) (i : Fin 16) : ((leaveCritical p s).chan i).acked = (s.chan i).acked := by
  unfold leaveCritical; try dsimp only
  (repeat' split) <;> simp

/-! ## reportBand -/

@[simp] theorem reportBand_timebase (p : Fin 256) (b : Band) : (reportBand p b s).timebase = s.timebase := by
  unfold reportBand; try dsimp only
  (repeat' split) <;> simp

@[simp] theorem reportBand_ci (p : Fin 256) (b : Band) : (reportBand p b s).ci = s.ci := by
  unfold reportBand; try dsimp only
  (repeat' split) <;> simp

@[simp] theorem reportBand_points (p : Fin 256) (b : Band) : (reportBand p b s).points = s.points := by
  unfold reportBand; try dsimp only
  (repeat' split) <;> simp

@[simp] theorem reportBand_sups (p : Fin 256) (b : Band) : (reportBand p b s).sups = s.sups := by
  unfold reportBand; try dsimp only
  (repeat' split) <;> simp

@[simp] theorem reportBand_ru (p : Fin 256) (b : Band) : (reportBand p b s).ru = s.ru := by
  unfold reportBand; try dsimp only
  (repeat' split) <;> simp

@[simp] theorem reportBand_sweep (p : Fin 256) (b : Band) : (reportBand p b s).sweep = s.sweep := by
  unfold reportBand; try dsimp only
  (repeat' split) <;> simp

@[simp] theorem reportBand_pending (p : Fin 256) (b : Band) : (reportBand p b s).pending = s.pending := by
  unfold reportBand; try dsimp only
  (repeat' split) <;> simp

@[simp] theorem reportBand_turns (p : Fin 256) (b : Band) : (reportBand p b s).turns = s.turns := by
  unfold reportBand; try dsimp only
  (repeat' split) <;> simp

@[simp] theorem reportBand_point (p : Fin 256) (b : Band) (i : Fin 256) : (reportBand p b s).point i = s.point i := by
  simp only [State.point, reportBand_points]

@[simp] theorem reportBand_sup (p : Fin 256) (b : Band) (i : Fin 32) : (reportBand p b s).sup i = s.sup i := by
  simp only [State.sup, reportBand_sups]

@[simp] theorem reportBand_reg_config (p : Fin 256) (b : Band) (i : Fin 32) : ((reportBand p b s).reg i).config = (s.reg i).config := by
  unfold reportBand; try dsimp only
  (repeat' split) <;> simp

@[simp] theorem reportBand_reg_curve (p : Fin 256) (b : Band) (i : Fin 32) : ((reportBand p b s).reg i).curve = (s.reg i).curve := by
  unfold reportBand; try dsimp only
  (repeat' split) <;> simp

@[simp] theorem reportBand_chan_config (p : Fin 256) (b : Band) (i : Fin 16) : ((reportBand p b s).chan i).config = (s.chan i).config := by
  unfold reportBand; try dsimp only
  (repeat' split) <;> simp

@[simp] theorem reportBand_chan_acked (p : Fin 256) (b : Band) (i : Fin 16) : ((reportBand p b s).chan i).acked = (s.chan i).acked := by
  unfold reportBand; try dsimp only
  (repeat' split) <;> simp

/-! ## startWindow -/

@[simp] theorem startWindow_timebase (r : Fin 32) : (startWindow r s).timebase = s.timebase := by
  unfold startWindow; try dsimp only
  (repeat' split) <;> simp

@[simp] theorem startWindow_ci (r : Fin 32) : (startWindow r s).ci = s.ci := by
  unfold startWindow; try dsimp only
  (repeat' split) <;> simp

@[simp] theorem startWindow_points (r : Fin 32) : (startWindow r s).points = s.points := by
  unfold startWindow; try dsimp only
  (repeat' split) <;> simp

@[simp] theorem startWindow_regs (r : Fin 32) : (startWindow r s).regs = s.regs := by
  unfold startWindow; try dsimp only
  (repeat' split) <;> simp

@[simp] theorem startWindow_om (r : Fin 32) : (startWindow r s).om = s.om := by
  unfold startWindow; try dsimp only
  (repeat' split) <;> simp

@[simp] theorem startWindow_chans (r : Fin 32) : (startWindow r s).chans = s.chans := by
  unfold startWindow; try dsimp only
  (repeat' split) <;> simp

@[simp] theorem startWindow_ru (r : Fin 32) : (startWindow r s).ru = s.ru := by
  unfold startWindow; try dsimp only
  (repeat' split) <;> simp

@[simp] theorem startWindow_nu (r : Fin 32) : (startWindow r s).nu = s.nu := by
  unfold startWindow; try dsimp only
  (repeat' split) <;> simp

@[simp] theorem startWindow_sweep (r : Fin 32) : (startWindow r s).sweep = s.sweep := by
  unfold startWindow; try dsimp only
  (repeat' split) <;> simp

@[simp] theorem startWindow_counters (r : Fin 32) : (startWindow r s).counters = s.counters := by
  unfold startWindow; try dsimp only
  (repeat' split) <;> simp

@[simp] theorem startWindow_pending (r : Fin 32) : (startWindow r s).pending = s.pending := by
  unfold startWindow; try dsimp only
  (repeat' split) <;> simp

@[simp] theorem startWindow_turns (r : Fin 32) : (startWindow r s).turns = s.turns := by
  unfold startWindow; try dsimp only
  (repeat' split) <;> simp

@[simp] theorem startWindow_point (r : Fin 32) (i : Fin 256) : (startWindow r s).point i = s.point i := by
  simp only [State.point, startWindow_points]

@[simp] theorem startWindow_reg (r : Fin 32) (i : Fin 32) : (startWindow r s).reg i = s.reg i := by
  simp only [State.reg, startWindow_regs]

@[simp] theorem startWindow_chan (r : Fin 32) (i : Fin 16) : (startWindow r s).chan i = s.chan i := by
  simp only [State.chan, startWindow_chans]

/-! ## stopWindow -/

@[simp] theorem stopWindow_timebase (r : Fin 32) : (stopWindow r s).timebase = s.timebase := rfl

@[simp] theorem stopWindow_ci (r : Fin 32) : (stopWindow r s).ci = s.ci := rfl

@[simp] theorem stopWindow_points (r : Fin 32) : (stopWindow r s).points = s.points := rfl

@[simp] theorem stopWindow_regs (r : Fin 32) : (stopWindow r s).regs = s.regs := rfl

@[simp] theorem stopWindow_om (r : Fin 32) : (stopWindow r s).om = s.om := rfl

@[simp] theorem stopWindow_chans (r : Fin 32) : (stopWindow r s).chans = s.chans := rfl

@[simp] theorem stopWindow_ru (r : Fin 32) : (stopWindow r s).ru = s.ru := rfl

@[simp] theorem stopWindow_nu (r : Fin 32) : (stopWindow r s).nu = s.nu := rfl

@[simp] theorem stopWindow_sweep (r : Fin 32) : (stopWindow r s).sweep = s.sweep := rfl

@[simp] theorem stopWindow_counters (r : Fin 32) : (stopWindow r s).counters = s.counters := rfl

@[simp] theorem stopWindow_pending (r : Fin 32) : (stopWindow r s).pending = s.pending := rfl

@[simp] theorem stopWindow_turns (r : Fin 32) : (stopWindow r s).turns = s.turns := rfl

@[simp] theorem stopWindow_point (r : Fin 32) (i : Fin 256) : (stopWindow r s).point i = s.point i := by
  simp only [State.point, stopWindow_points]

@[simp] theorem stopWindow_reg (r : Fin 32) (i : Fin 32) : (stopWindow r s).reg i = s.reg i := by
  simp only [State.reg, stopWindow_regs]

@[simp] theorem stopWindow_chan (r : Fin 32) (i : Fin 16) : (stopWindow r s).chan i = s.chan i := by
  simp only [State.chan, stopWindow_chans]

/-! ## armSupervisor -/

@[simp] theorem armSupervisor_timebase (r : Fin 32) : (armSupervisor r s).timebase = s.timebase := by
  unfold armSupervisor; try dsimp only
  (repeat' split) <;> simp

@[simp] theorem armSupervisor_ci (r : Fin 32) : (armSupervisor r s).ci = s.ci := by
  unfold armSupervisor; try dsimp only
  (repeat' split) <;> simp

@[simp] theorem armSupervisor_points (r : Fin 32) : (armSupervisor r s).points = s.points := by
  unfold armSupervisor; try dsimp only
  (repeat' split) <;> simp

@[simp] theorem armSupervisor_regs (r : Fin 32) : (armSupervisor r s).regs = s.regs := by
  unfold armSupervisor; try dsimp only
  (repeat' split) <;> simp

@[simp] theorem armSupervisor_om (r : Fin 32) : (armSupervisor r s).om = s.om := by
  unfold armSupervisor; try dsimp only
  (repeat' split) <;> simp

@[simp] theorem armSupervisor_chans (r : Fin 32) : (armSupervisor r s).chans = s.chans := by
  unfold armSupervisor; try dsimp only
  (repeat' split) <;> simp

@[simp] theorem armSupervisor_ru (r : Fin 32) : (armSupervisor r s).ru = s.ru := by
  unfold armSupervisor; try dsimp only
  (repeat' split) <;> simp

@[simp] theorem armSupervisor_nu (r : Fin 32) : (armSupervisor r s).nu = s.nu := by
  unfold armSupervisor; try dsimp only
  (repeat' split) <;> simp

@[simp] theorem armSupervisor_sweep (r : Fin 32) : (armSupervisor r s).sweep = s.sweep := by
  unfold armSupervisor; try dsimp only
  (repeat' split) <;> simp

@[simp] theorem armSupervisor_counters (r : Fin 32) : (armSupervisor r s).counters = s.counters := by
  unfold armSupervisor; try dsimp only
  (repeat' split) <;> simp

@[simp] theorem armSupervisor_pending (r : Fin 32) : (armSupervisor r s).pending = s.pending := by
  unfold armSupervisor; try dsimp only
  (repeat' split) <;> simp

@[simp] theorem armSupervisor_turns (r : Fin 32) : (armSupervisor r s).turns = s.turns := by
  unfold armSupervisor; try dsimp only
  (repeat' split) <;> simp

@[simp] theorem armSupervisor_point (r : Fin 32) (i : Fin 256) : (armSupervisor r s).point i = s.point i := by
  simp only [State.point, armSupervisor_points]

@[simp] theorem armSupervisor_reg (r : Fin 32) (i : Fin 32) : (armSupervisor r s).reg i = s.reg i := by
  simp only [State.reg, armSupervisor_regs]

@[simp] theorem armSupervisor_chan (r : Fin 32) (i : Fin 16) : (armSupervisor r s).chan i = s.chan i := by
  simp only [State.chan, armSupervisor_chans]

/-! ## enableSupervisor -/

@[simp] theorem enableSupervisor_timebase (r : Fin 32) : (enableSupervisor r s).timebase = s.timebase := by
  unfold enableSupervisor; try dsimp only
  (repeat' split) <;> simp

@[simp] theorem enableSupervisor_ci (r : Fin 32) : (enableSupervisor r s).ci = s.ci := by
  unfold enableSupervisor; try dsimp only
  (repeat' split) <;> simp

@[simp] theorem enableSupervisor_points (r : Fin 32) : (enableSupervisor r s).points = s.points := by
  unfold enableSupervisor; try dsimp only
  (repeat' split) <;> simp

@[simp] theorem enableSupervisor_regs (r : Fin 32) : (enableSupervisor r s).regs = s.regs := by
  unfold enableSupervisor; try dsimp only
  (repeat' split) <;> simp

@[simp] theorem enableSupervisor_om (r : Fin 32) : (enableSupervisor r s).om = s.om := by
  unfold enableSupervisor; try dsimp only
  (repeat' split) <;> simp

@[simp] theorem enableSupervisor_chans (r : Fin 32) : (enableSupervisor r s).chans = s.chans := by
  unfold enableSupervisor; try dsimp only
  (repeat' split) <;> simp

@[simp] theorem enableSupervisor_ru (r : Fin 32) : (enableSupervisor r s).ru = s.ru := by
  unfold enableSupervisor; try dsimp only
  (repeat' split) <;> simp

@[simp] theorem enableSupervisor_nu (r : Fin 32) : (enableSupervisor r s).nu = s.nu := by
  unfold enableSupervisor; try dsimp only
  (repeat' split) <;> simp

@[simp] theorem enableSupervisor_sweep (r : Fin 32) : (enableSupervisor r s).sweep = s.sweep := by
  unfold enableSupervisor; try dsimp only
  (repeat' split) <;> simp

@[simp] theorem enableSupervisor_counters (r : Fin 32) : (enableSupervisor r s).counters = s.counters := by
  unfold enableSupervisor; try dsimp only
  (repeat' split) <;> simp

@[simp] theorem enableSupervisor_pending (r : Fin 32) : (enableSupervisor r s).pending = s.pending := by
  unfold enableSupervisor; try dsimp only
  (repeat' split) <;> simp

@[simp] theorem enableSupervisor_turns (r : Fin 32) : (enableSupervisor r s).turns = s.turns := by
  unfold enableSupervisor; try dsimp only
  (repeat' split) <;> simp

@[simp] theorem enableSupervisor_point (r : Fin 32) (i : Fin 256) : (enableSupervisor r s).point i = s.point i := by
  simp only [State.point, enableSupervisor_points]

@[simp] theorem enableSupervisor_reg (r : Fin 32) (i : Fin 32) : (enableSupervisor r s).reg i = s.reg i := by
  simp only [State.reg, enableSupervisor_regs]

@[simp] theorem enableSupervisor_chan (r : Fin 32) (i : Fin 16) : (enableSupervisor r s).chan i = s.chan i := by
  simp only [State.chan, enableSupervisor_chans]

/-! ## ackedChanged -/

@[simp] theorem ackedChanged_timebase (c : Fin 16) (old : Option Nat) : (ackedChanged c old s).timebase = s.timebase := by
  unfold ackedChanged; try dsimp only
  (repeat' split) <;> simp

@[simp] theorem ackedChanged_ci (c : Fin 16) (old : Option Nat) : (ackedChanged c old s).ci = s.ci := by
  unfold ackedChanged; try dsimp only
  (repeat' split) <;> simp

@[simp] theorem ackedChanged_points (c : Fin 16) (old : Option Nat) : (ackedChanged c old s).points = s.points := by
  unfold ackedChanged; try dsimp only
  (repeat' split) <;> simp

@[simp] theorem ackedChanged_regs (c : Fin 16) (old : Option Nat) : (ackedChanged c old s).regs = s.regs := by
  unfold ackedChanged; try dsimp only
  (repeat' split) <;> simp

@[simp] theorem ackedChanged_om (c : Fin 16) (old : Option Nat) : (ackedChanged c old s).om = s.om := by
  unfold ackedChanged; try dsimp only
  (repeat' split) <;> simp

@[simp] theorem ackedChanged_chans (c : Fin 16) (old : Option Nat) : (ackedChanged c old s).chans = s.chans := by
  unfold ackedChanged; try dsimp only
  (repeat' split) <;> simp

@[simp] theorem ackedChanged_ru (c : Fin 16) (old : Option Nat) : (ackedChanged c old s).ru = s.ru := by
  unfold ackedChanged; try dsimp only
  (repeat' split) <;> simp

@[simp] theorem ackedChanged_nu (c : Fin 16) (old : Option Nat) : (ackedChanged c old s).nu = s.nu := by
  unfold ackedChanged; try dsimp only
  (repeat' split) <;> simp

@[simp] theorem ackedChanged_sweep (c : Fin 16) (old : Option Nat) : (ackedChanged c old s).sweep = s.sweep := by
  unfold ackedChanged; try dsimp only
  (repeat' split) <;> simp

@[simp] theorem ackedChanged_counters (c : Fin 16) (old : Option Nat) : (ackedChanged c old s).counters = s.counters := by
  unfold ackedChanged; try dsimp only
  (repeat' split) <;> simp

@[simp] theorem ackedChanged_pending (c : Fin 16) (old : Option Nat) : (ackedChanged c old s).pending = s.pending := by
  unfold ackedChanged; try dsimp only
  (repeat' split) <;> simp

@[simp] theorem ackedChanged_turns (c : Fin 16) (old : Option Nat) : (ackedChanged c old s).turns = s.turns := by
  unfold ackedChanged; try dsimp only
  (repeat' split) <;> simp

@[simp] theorem ackedChanged_point (c : Fin 16) (old : Option Nat) (i : Fin 256) : (ackedChanged c old s).point i = s.point i := by
  simp only [State.point, ackedChanged_points]

@[simp] theorem ackedChanged_reg (c : Fin 16) (old : Option Nat) (i : Fin 32) : (ackedChanged c old s).reg i = s.reg i := by
  simp only [State.reg, ackedChanged_regs]

@[simp] theorem ackedChanged_chan (c : Fin 16) (old : Option Nat) (i : Fin 16) : (ackedChanged c old s).chan i = s.chan i := by
  simp only [State.chan, ackedChanged_chans]

/-! ## clearStall -/

@[simp] theorem clearStall_timebase (r : Fin 32) (f : Int) : (clearStall r f s).timebase = s.timebase := by
  unfold clearStall; try dsimp only
  (repeat' split) <;> simp

@[simp] theorem clearStall_ci (r : Fin 32) (f : Int) : (clearStall r f s).ci = s.ci := by
  unfold clearStall; try dsimp only
  (repeat' split) <;> simp

@[simp] theorem clearStall_points (r : Fin 32) (f : Int) : (clearStall r f s).points = s.points := by
  unfold clearStall; try dsimp only
  (repeat' split) <;> simp

@[simp] theorem clearStall_regs (r : Fin 32) (f : Int) : (clearStall r f s).regs = s.regs := by
  unfold clearStall; try dsimp only
  (repeat' split) <;> simp

@[simp] theorem clearStall_om (r : Fin 32) (f : Int) : (clearStall r f s).om = s.om := by
  unfold clearStall; try dsimp only
  (repeat' split) <;> simp

@[simp] theorem clearStall_chans (r : Fin 32) (f : Int) : (clearStall r f s).chans = s.chans := by
  unfold clearStall; try dsimp only
  (repeat' split) <;> simp

@[simp] theorem clearStall_ru (r : Fin 32) (f : Int) : (clearStall r f s).ru = s.ru := by
  unfold clearStall; try dsimp only
  (repeat' split) <;> simp

@[simp] theorem clearStall_sweep (r : Fin 32) (f : Int) : (clearStall r f s).sweep = s.sweep := by
  unfold clearStall; try dsimp only
  (repeat' split) <;> simp

@[simp] theorem clearStall_pending (r : Fin 32) (f : Int) : (clearStall r f s).pending = s.pending := by
  unfold clearStall; try dsimp only
  (repeat' split) <;> simp

@[simp] theorem clearStall_turns (r : Fin 32) (f : Int) : (clearStall r f s).turns = s.turns := by
  unfold clearStall; try dsimp only
  (repeat' split) <;> simp

@[simp] theorem clearStall_point (r : Fin 32) (f : Int) (i : Fin 256) : (clearStall r f s).point i = s.point i := by
  simp only [State.point, clearStall_points]

@[simp] theorem clearStall_reg (r : Fin 32) (f : Int) (i : Fin 32) : (clearStall r f s).reg i = s.reg i := by
  simp only [State.reg, clearStall_regs]

@[simp] theorem clearStall_chan (r : Fin 32) (f : Int) (i : Fin 16) : (clearStall r f s).chan i = s.chan i := by
  simp only [State.chan, clearStall_chans]

/-! ## feedbackReading -/

@[simp] theorem feedbackReading_timebase (p : Fin 256) (f : Int) (r : Fin 32) : (feedbackReading p f r s).timebase = s.timebase := by
  unfold feedbackReading; try dsimp only
  (repeat' split) <;> simp

@[simp] theorem feedbackReading_ci (p : Fin 256) (f : Int) (r : Fin 32) : (feedbackReading p f r s).ci = s.ci := by
  unfold feedbackReading; try dsimp only
  (repeat' split) <;> simp

@[simp] theorem feedbackReading_points (p : Fin 256) (f : Int) (r : Fin 32) : (feedbackReading p f r s).points = s.points := by
  unfold feedbackReading; try dsimp only
  (repeat' split) <;> simp

@[simp] theorem feedbackReading_regs (p : Fin 256) (f : Int) (r : Fin 32) : (feedbackReading p f r s).regs = s.regs := by
  unfold feedbackReading; try dsimp only
  (repeat' split) <;> simp

@[simp] theorem feedbackReading_om (p : Fin 256) (f : Int) (r : Fin 32) : (feedbackReading p f r s).om = s.om := by
  unfold feedbackReading; try dsimp only
  (repeat' split) <;> simp

@[simp] theorem feedbackReading_chans (p : Fin 256) (f : Int) (r : Fin 32) : (feedbackReading p f r s).chans = s.chans := by
  unfold feedbackReading; try dsimp only
  (repeat' split) <;> simp

@[simp] theorem feedbackReading_ru (p : Fin 256) (f : Int) (r : Fin 32) : (feedbackReading p f r s).ru = s.ru := by
  unfold feedbackReading; try dsimp only
  (repeat' split) <;> simp

@[simp] theorem feedbackReading_sweep (p : Fin 256) (f : Int) (r : Fin 32) : (feedbackReading p f r s).sweep = s.sweep := by
  unfold feedbackReading; try dsimp only
  (repeat' split) <;> simp

@[simp] theorem feedbackReading_pending (p : Fin 256) (f : Int) (r : Fin 32) : (feedbackReading p f r s).pending = s.pending := by
  unfold feedbackReading; try dsimp only
  (repeat' split) <;> simp

@[simp] theorem feedbackReading_turns (p : Fin 256) (f : Int) (r : Fin 32) : (feedbackReading p f r s).turns = s.turns := by
  unfold feedbackReading; try dsimp only
  (repeat' split) <;> simp

@[simp] theorem feedbackReading_point (p : Fin 256) (f : Int) (r : Fin 32) (i : Fin 256) : (feedbackReading p f r s).point i = s.point i := by
  simp only [State.point, feedbackReading_points]

@[simp] theorem feedbackReading_reg (p : Fin 256) (f : Int) (r : Fin 32) (i : Fin 32) : (feedbackReading p f r s).reg i = s.reg i := by
  simp only [State.reg, feedbackReading_regs]

@[simp] theorem feedbackReading_chan (p : Fin 256) (f : Int) (r : Fin 32) (i : Fin 16) : (feedbackReading p f r s).chan i = s.chan i := by
  simp only [State.chan, feedbackReading_chans]

/-! ## feedbackWentStale -/

@[simp] theorem feedbackWentStale_timebase (p : Fin 256) (r : Fin 32) : (feedbackWentStale p r s).timebase = s.timebase := by
  unfold feedbackWentStale; try dsimp only
  (repeat' split) <;> simp

@[simp] theorem feedbackWentStale_ci (p : Fin 256) (r : Fin 32) : (feedbackWentStale p r s).ci = s.ci := by
  unfold feedbackWentStale; try dsimp only
  (repeat' split) <;> simp

@[simp] theorem feedbackWentStale_points (p : Fin 256) (r : Fin 32) : (feedbackWentStale p r s).points = s.points := by
  unfold feedbackWentStale; try dsimp only
  (repeat' split) <;> simp

@[simp] theorem feedbackWentStale_regs (p : Fin 256) (r : Fin 32) : (feedbackWentStale p r s).regs = s.regs := by
  unfold feedbackWentStale; try dsimp only
  (repeat' split) <;> simp

@[simp] theorem feedbackWentStale_om (p : Fin 256) (r : Fin 32) : (feedbackWentStale p r s).om = s.om := by
  unfold feedbackWentStale; try dsimp only
  (repeat' split) <;> simp

@[simp] theorem feedbackWentStale_chans (p : Fin 256) (r : Fin 32) : (feedbackWentStale p r s).chans = s.chans := by
  unfold feedbackWentStale; try dsimp only
  (repeat' split) <;> simp

@[simp] theorem feedbackWentStale_ru (p : Fin 256) (r : Fin 32) : (feedbackWentStale p r s).ru = s.ru := by
  unfold feedbackWentStale; try dsimp only
  (repeat' split) <;> simp

@[simp] theorem feedbackWentStale_nu (p : Fin 256) (r : Fin 32) : (feedbackWentStale p r s).nu = s.nu := by
  unfold feedbackWentStale; try dsimp only
  (repeat' split) <;> simp

@[simp] theorem feedbackWentStale_sweep (p : Fin 256) (r : Fin 32) : (feedbackWentStale p r s).sweep = s.sweep := by
  unfold feedbackWentStale; try dsimp only
  (repeat' split) <;> simp

@[simp] theorem feedbackWentStale_counters (p : Fin 256) (r : Fin 32) : (feedbackWentStale p r s).counters = s.counters := by
  unfold feedbackWentStale; try dsimp only
  (repeat' split) <;> simp

@[simp] theorem feedbackWentStale_pending (p : Fin 256) (r : Fin 32) : (feedbackWentStale p r s).pending = s.pending := by
  unfold feedbackWentStale; try dsimp only
  (repeat' split) <;> simp

@[simp] theorem feedbackWentStale_turns (p : Fin 256) (r : Fin 32) : (feedbackWentStale p r s).turns = s.turns := by
  unfold feedbackWentStale; try dsimp only
  (repeat' split) <;> simp

@[simp] theorem feedbackWentStale_point (p : Fin 256) (r : Fin 32) (i : Fin 256) : (feedbackWentStale p r s).point i = s.point i := by
  simp only [State.point, feedbackWentStale_points]

@[simp] theorem feedbackWentStale_reg (p : Fin 256) (r : Fin 32) (i : Fin 32) : (feedbackWentStale p r s).reg i = s.reg i := by
  simp only [State.reg, feedbackWentStale_regs]

@[simp] theorem feedbackWentStale_chan (p : Fin 256) (r : Fin 32) (i : Fin 16) : (feedbackWentStale p r s).chan i = s.chan i := by
  simp only [State.chan, feedbackWentStale_chans]

/-! ## handFeedback -/

@[simp] theorem handFeedback_timebase (p : Fin 256) (f : Int) : (handFeedback p f s).timebase = s.timebase := 
  forEachRegulator_field (feedbackReading p f) (State.timebase) (fun r t => feedbackReading_timebase t p f r) s

@[simp] theorem handFeedback_ci (p : Fin 256) (f : Int) : (handFeedback p f s).ci = s.ci := 
  forEachRegulator_field (feedbackReading p f) (State.ci) (fun r t => feedbackReading_ci t p f r) s

@[simp] theorem handFeedback_points (p : Fin 256) (f : Int) : (handFeedback p f s).points = s.points := 
  forEachRegulator_field (feedbackReading p f) (State.points) (fun r t => feedbackReading_points t p f r) s

@[simp] theorem handFeedback_regs (p : Fin 256) (f : Int) : (handFeedback p f s).regs = s.regs := 
  forEachRegulator_field (feedbackReading p f) (State.regs) (fun r t => feedbackReading_regs t p f r) s

@[simp] theorem handFeedback_om (p : Fin 256) (f : Int) : (handFeedback p f s).om = s.om := 
  forEachRegulator_field (feedbackReading p f) (State.om) (fun r t => feedbackReading_om t p f r) s

@[simp] theorem handFeedback_chans (p : Fin 256) (f : Int) : (handFeedback p f s).chans = s.chans := 
  forEachRegulator_field (feedbackReading p f) (State.chans) (fun r t => feedbackReading_chans t p f r) s

@[simp] theorem handFeedback_ru (p : Fin 256) (f : Int) : (handFeedback p f s).ru = s.ru := 
  forEachRegulator_field (feedbackReading p f) (State.ru) (fun r t => feedbackReading_ru t p f r) s

@[simp] theorem handFeedback_sweep (p : Fin 256) (f : Int) : (handFeedback p f s).sweep = s.sweep := 
  forEachRegulator_field (feedbackReading p f) (State.sweep) (fun r t => feedbackReading_sweep t p f r) s

@[simp] theorem handFeedback_pending (p : Fin 256) (f : Int) : (handFeedback p f s).pending = s.pending := 
  forEachRegulator_field (feedbackReading p f) (State.pending) (fun r t => feedbackReading_pending t p f r) s

@[simp] theorem handFeedback_turns (p : Fin 256) (f : Int) : (handFeedback p f s).turns = s.turns := 
  forEachRegulator_field (feedbackReading p f) (State.turns) (fun r t => feedbackReading_turns t p f r) s

@[simp] theorem handFeedback_point (p : Fin 256) (f : Int) (i : Fin 256) : (handFeedback p f s).point i = s.point i := by
  simp only [State.point, handFeedback_points]

@[simp] theorem handFeedback_reg (p : Fin 256) (f : Int) (i : Fin 32) : (handFeedback p f s).reg i = s.reg i := by
  simp only [State.reg, handFeedback_regs]

@[simp] theorem handFeedback_chan (p : Fin 256) (f : Int) (i : Fin 16) : (handFeedback p f s).chan i = s.chan i := by
  simp only [State.chan, handFeedback_chans]

/-! ## handStaleness -/

@[simp] theorem handStaleness_timebase (p : Fin 256) : (handStaleness p s).timebase = s.timebase := 
  forEachRegulator_field (feedbackWentStale p) (State.timebase) (fun r t => feedbackWentStale_timebase t p r) s

@[simp] theorem handStaleness_ci (p : Fin 256) : (handStaleness p s).ci = s.ci := 
  forEachRegulator_field (feedbackWentStale p) (State.ci) (fun r t => feedbackWentStale_ci t p r) s

@[simp] theorem handStaleness_points (p : Fin 256) : (handStaleness p s).points = s.points := 
  forEachRegulator_field (feedbackWentStale p) (State.points) (fun r t => feedbackWentStale_points t p r) s

@[simp] theorem handStaleness_regs (p : Fin 256) : (handStaleness p s).regs = s.regs := 
  forEachRegulator_field (feedbackWentStale p) (State.regs) (fun r t => feedbackWentStale_regs t p r) s

@[simp] theorem handStaleness_om (p : Fin 256) : (handStaleness p s).om = s.om := 
  forEachRegulator_field (feedbackWentStale p) (State.om) (fun r t => feedbackWentStale_om t p r) s

@[simp] theorem handStaleness_chans (p : Fin 256) : (handStaleness p s).chans = s.chans := 
  forEachRegulator_field (feedbackWentStale p) (State.chans) (fun r t => feedbackWentStale_chans t p r) s

@[simp] theorem handStaleness_ru (p : Fin 256) : (handStaleness p s).ru = s.ru := 
  forEachRegulator_field (feedbackWentStale p) (State.ru) (fun r t => feedbackWentStale_ru t p r) s

@[simp] theorem handStaleness_nu (p : Fin 256) : (handStaleness p s).nu = s.nu := 
  forEachRegulator_field (feedbackWentStale p) (State.nu) (fun r t => feedbackWentStale_nu t p r) s

@[simp] theorem handStaleness_sweep (p : Fin 256) : (handStaleness p s).sweep = s.sweep := 
  forEachRegulator_field (feedbackWentStale p) (State.sweep) (fun r t => feedbackWentStale_sweep t p r) s

@[simp] theorem handStaleness_counters (p : Fin 256) : (handStaleness p s).counters = s.counters := 
  forEachRegulator_field (feedbackWentStale p) (State.counters) (fun r t => feedbackWentStale_counters t p r) s

@[simp] theorem handStaleness_pending (p : Fin 256) : (handStaleness p s).pending = s.pending := 
  forEachRegulator_field (feedbackWentStale p) (State.pending) (fun r t => feedbackWentStale_pending t p r) s

@[simp] theorem handStaleness_turns (p : Fin 256) : (handStaleness p s).turns = s.turns := 
  forEachRegulator_field (feedbackWentStale p) (State.turns) (fun r t => feedbackWentStale_turns t p r) s

@[simp] theorem handStaleness_point (p : Fin 256) (i : Fin 256) : (handStaleness p s).point i = s.point i := by
  simp only [State.point, handStaleness_points]

@[simp] theorem handStaleness_reg (p : Fin 256) (i : Fin 32) : (handStaleness p s).reg i = s.reg i := by
  simp only [State.reg, handStaleness_regs]

@[simp] theorem handStaleness_chan (p : Fin 256) (i : Fin 16) : (handStaleness p s).chan i = s.chan i := by
  simp only [State.chan, handStaleness_chans]

/-! ## resetSupervisor -/

@[simp] theorem resetSupervisor_timebase (r : Fin 32) : (resetSupervisor r s).timebase = s.timebase := rfl

@[simp] theorem resetSupervisor_ci (r : Fin 32) : (resetSupervisor r s).ci = s.ci := rfl

@[simp] theorem resetSupervisor_points (r : Fin 32) : (resetSupervisor r s).points = s.points := rfl

@[simp] theorem resetSupervisor_regs (r : Fin 32) : (resetSupervisor r s).regs = s.regs := rfl

@[simp] theorem resetSupervisor_om (r : Fin 32) : (resetSupervisor r s).om = s.om := rfl

@[simp] theorem resetSupervisor_chans (r : Fin 32) : (resetSupervisor r s).chans = s.chans := rfl

@[simp] theorem resetSupervisor_ru (r : Fin 32) : (resetSupervisor r s).ru = s.ru := rfl

@[simp] theorem resetSupervisor_sweep (r : Fin 32) : (resetSupervisor r s).sweep = s.sweep := rfl

@[simp] theorem resetSupervisor_counters (r : Fin 32) : (resetSupervisor r s).counters = s.counters := rfl

@[simp] theorem resetSupervisor_pending (r : Fin 32) : (resetSupervisor r s).pending = s.pending := rfl

@[simp] theorem resetSupervisor_turns (r : Fin 32) : (resetSupervisor r s).turns = s.turns := rfl

@[simp] theorem resetSupervisor_point (r : Fin 32) (i : Fin 256) : (resetSupervisor r s).point i = s.point i := by
  simp only [State.point, resetSupervisor_points]

@[simp] theorem resetSupervisor_reg (r : Fin 32) (i : Fin 32) : (resetSupervisor r s).reg i = s.reg i := by
  simp only [State.reg, resetSupervisor_regs]

@[simp] theorem resetSupervisor_chan (r : Fin 32) (i : Fin 16) : (resetSupervisor r s).chan i = s.chan i := by
  simp only [State.chan, resetSupervisor_chans]

end Sys2Proof.Machine
end

