-- ==== Sys2Proof/Laws/Chain.lean ====
section
/-! SUPPORT. What the Chain Interface's own operations can do: an idle port loses its last class and nothing else, a forwarded frame touches
the transit queue and the counted events only, a SAMPLE is taken whole or in part, a FRAME_END is one of four things, and the Timebase takes the channels' marks with it. -/

namespace Sys2Proof.Machine

/-! ## settleIdlePort (R16) -/

/-- Settling an idle port does nothing, or makes the last class none at a FREE port without candidates. -/
theorem settleIdlePort_cases (s : State) :
    settleIdlePort s = s ∨
      (s.ci.port = .free ∧ classGranted s = none ∧ settleIdlePort s = s.withCi { s.ci with lastClass := none }) := by
  unfold settleIdlePort
  split
  · next h => simp only [Bool.and_eq_true, decide_eq_true_eq, Option.isNone_iff_eq_none] at h; exact .inr ⟨h.1, h.2, rfl⟩
  · exact .inl rfl

/-- Every field of the state but the Chain Interface is kept. -/
theorem settleIdlePort_frame (s : State) : settleIdlePort s = s.withCi { s.ci with lastClass := (settleIdlePort s).ci.lastClass } := by
  obtain h | ⟨-, -, h⟩ := settleIdlePort_cases s <;> rw [h] <;> rfl

@[simp] theorem settleIdlePort_nu (s : State) : (settleIdlePort s).nu = s.nu := by rw [settleIdlePort_frame]; rfl
@[simp] theorem settleIdlePort_ru (s : State) : (settleIdlePort s).ru = s.ru := by rw [settleIdlePort_frame]; rfl
@[simp] theorem settleIdlePort_points (s : State) : (settleIdlePort s).points = s.points := by rw [settleIdlePort_frame]; rfl
@[simp] theorem settleIdlePort_chans (s : State) : (settleIdlePort s).chans = s.chans := by rw [settleIdlePort_frame]; rfl
@[simp] theorem settleIdlePort_pending (s : State) : (settleIdlePort s).pending = s.pending := by rw [settleIdlePort_frame]; rfl
@[simp] theorem settleIdlePort_turns (s : State) : (settleIdlePort s).turns = s.turns := by rw [settleIdlePort_frame]; rfl
@[simp] theorem settleIdlePort_transit (s : State) : (settleIdlePort s).ci.transit = s.ci.transit := by rw [settleIdlePort_frame]; rfl
@[simp] theorem settleIdlePort_port (s : State) : (settleIdlePort s).ci.port = s.ci.port := by rw [settleIdlePort_frame]; rfl
@[simp] theorem settleIdlePort_sample (s : State) : (settleIdlePort s).ci.sample = s.ci.sample := by rw [settleIdlePort_frame]; rfl

/-! ## Forwarding and the division of a SAMPLE (R10, R11, R38) -/

/-- A frame to be forwarded is dropped with an event, or joins the transit queue one hop poorer. -/
theorem forward_cases (f : Frame) (s : State) :
    (∃ c, forward f s = signal c s) ∨
      (s.ci.transit.length < 8 ∧
        forward f s = s.withCi { s.ci with transit := s.ci.transit ++ [{ f with hops := f.hops - 1#8 }] }) := by
  unfold forward joinTransit
  split
  · exact .inl ⟨_, rfl⟩
  · split
    · next h => exact .inr ⟨h, rfl⟩
    · exact .inl ⟨_, rfl⟩

/-- The Point Engine takes so many readings; then the frame goes back, or waits in work with what is left. -/
theorem readSome_cases (n : Nat) (w : SampleInWork) (s : State) :
    let a := takeReadings w.frame.src (w.left.take n) s
    (w.left.drop n = [] ∧ readSome n w s = returnSample w.frame (w.kept ++ a.2) a.1) ∨
      (w.left.drop n ≠ [] ∧
        readSome n w s = a.1.withCi { a.1.ci with
          sample := some { frame := w.frame, kept := w.kept ++ a.2, left := w.left.drop n } }) := by
  intro a
  by_cases h : w.left.drop n = []
  · exact .inl ⟨h, if_pos (List.isEmpty_iff.mpr h)⟩
  · exact .inr ⟨h, if_neg (fun e => h (List.isEmpty_iff.mp e))⟩

/-- A SAMPLE taken to its end leaves nothing in work. -/
theorem readSome_whole (w : SampleInWork) (s : State) :
    readSome w.left.length w s =
      returnSample w.frame (w.kept ++ (takeReadings w.frame.src w.left s).2) (takeReadings w.frame.src w.left s).1 := by
  simp [readSome]

/-- Where it may be divided and the sender's choice divides it, the choice is used up; otherwise the SAMPLE is taken to its end. -/
theorem readOn_cases (divisible : Bool) (w : SampleInWork) (s : State) :
    (∃ n rest, divisible = true ∧ s.turns = .readings n :: rest ∧ readOn divisible w s = readSome n.val w (s.withTurns rest)) ∨
      ((divisible = false ∨ ∀ n, s.turns.head? ≠ some (.readings n)) ∧ readOn divisible w s = readSome w.left.length w s) := by
  cases divisible with
  | false => exact .inr ⟨.inl rfl, by simp [readOn]⟩
  | true =>
    unfold readOn
    split
    · next n rest _ h => exact .inl ⟨n, rest, rfl, h, rfl⟩
    · next h =>
      refine .inr ⟨.inr fun n e => ?_, rfl⟩
      obtain ⟨rest, e⟩ := List.head?_eq_some_iff.mp e
      exact h n rest rfl e

/-- What a FRAME_END can be: a SAMPLE in work goes on, nothing waits, a valid frame is taken, or a failing one is discarded. -/
theorem frameEnd_cases (divisible : Bool) (s : State) :
    (∃ w, s.ci.sample = some w ∧ frameEnd divisible s = settleIdlePort (readOn divisible w (s.withCi { s.ci with sample := none }))) ∨
      (s.ci.sample = none ∧ s.ci.rx.awaiting = none ∧ frameEnd divisible s = s) ∨
      (∃ f, s.ci.sample = none ∧ s.ci.rx.awaiting = some f ∧
        let counted := signal .framesIn (s.withCi { s.ci with rx := { s.ci.rx with awaiting := none } })
        (ingressPasses f = true ∧
          frameEnd divisible s = settleIdlePort (takeValid divisible (frameOfBytes f.bytes) (raiseLink f.endedAt counted))) ∨
        (ingressPasses f = false ∧ frameEnd divisible s = signal .crcError counted)) := by
  cases hs : s.ci.sample with
  | some w => exact .inl ⟨w, rfl, by simp [frameEnd, hs]⟩
  | none =>
    cases ha : s.ci.rx.awaiting with
    | none => exact .inr (.inl ⟨rfl, rfl, by simp [frameEnd, takeAwaiting, hs, ha]⟩)
    | some f =>
      refine .inr (.inr ⟨f, rfl, rfl, ?_⟩)
      cases hp : ingressPasses f <;> simp [frameEnd, takeAwaiting, hs, ha, hp]

/-! ## The Timebase and the channels' marks (R195, log entry 24) -/

@[simp] theorem Channel.settleMark_config (k : Channel) : k.settleMark.config = k.config := rfl
@[simp] theorem Channel.settleMark_state (k : Channel) : k.settleMark.state = k.state := rfl
@[simp] theorem Channel.settleMark_desired (k : Channel) : k.settleMark.desired = k.desired := rfl
@[simp] theorem Channel.settleMark_acked (k : Channel) : k.settleMark.acked = k.acked := rfl
@[simp] theorem Channel.settleMark_faulted (k : Channel) : k.settleMark.faulted = k.faulted := rfl
@[simp] theorem Channel.settleMark_waiting (k : Channel) : k.settleMark.waiting = k.waiting := rfl
@[simp] theorem Channel.settleMark_justOpened (k : Channel) : k.settleMark.justOpened = false := rfl

@[simp] theorem advanceTimebase_chan (s : State) (c : Fin 16) : (advanceTimebase s).chan c = (s.chan c).settleMark := by
  simp [advanceTimebase, State.chan, State.withChans, State.withTimebase]
@[simp] theorem advanceTimebase_timebase (s : State) : (advanceTimebase s).timebase = s.timebase + 1#32 := rfl
@[simp] theorem advanceTimebase_ci (s : State) : (advanceTimebase s).ci = s.ci := rfl
@[simp] theorem advanceTimebase_points (s : State) : (advanceTimebase s).points = s.points := rfl
@[simp] theorem advanceTimebase_regs (s : State) : (advanceTimebase s).regs = s.regs := rfl
@[simp] theorem advanceTimebase_om (s : State) : (advanceTimebase s).om = s.om := rfl
@[simp] theorem advanceTimebase_sups (s : State) : (advanceTimebase s).sups = s.sups := rfl
@[simp] theorem advanceTimebase_ru (s : State) : (advanceTimebase s).ru = s.ru := rfl
@[simp] theorem advanceTimebase_nu (s : State) : (advanceTimebase s).nu = s.nu := rfl
@[simp] theorem advanceTimebase_sweep (s : State) : (advanceTimebase s).sweep = s.sweep := rfl
@[simp] theorem advanceTimebase_counters (s : State) : (advanceTimebase s).counters = s.counters := rfl
@[simp] theorem advanceTimebase_pending (s : State) : (advanceTimebase s).pending = s.pending := rfl
@[simp] theorem advanceTimebase_turns (s : State) : (advanceTimebase s).turns = s.turns := rfl

end Sys2Proof.Machine
end

