-- ==== Sys2Proof/Laws/PerInstr.lean ====
section
/-! SUPPORT. The family OperandRange: every operand of every command stands in the range of the conventions (section 2.3). -/

namespace Sys2Proof

theorem pointIndex?_fin (p : Fin 256) : (pointIndex? p.val).isSome = true := by simp [pointIndex?]

theorem regulatorIndex?_fin (r : Fin 32) : (regulatorIndex? r.val).isSome = true := by simp [regulatorIndex?]

theorem channelIndex?_fin (c : Fin 16) : (channelIndex? c.val).isSome = true := by simp [channelIndex?]

theorem straps?_bits (a : BitVec 7) : (straps? a.toNat).isSome = true := by
  have h : a.toNat < 128 := a.isLt
  simp [straps?, h]

end Sys2Proof

namespace Sys2Proof.Laws.OperandRange

/-- The command's operands stand in their ranges. -/
def Statement (i : Instr) : Prop := i.wellFormed = true

theorem coldReset (a : BitVec 7) : Statement (.coldReset a) := straps?_bits a

theorem timebaseAdvance : Statement (.timebaseAdvance) := rfl

theorem frameEnd : Statement .frameEnd := rfl

theorem linkDownTimerExpiry : Statement (.linkDownTimerExpiry) := rfl

theorem egressGrant : Statement (.egressGrant) := rfl

theorem egressDone : Statement (.egressDone) := rfl

theorem stalenessExpiry (p : Fin 256) : Statement (.stalenessExpiry p) := pointIndex?_fin p

theorem periodTimerExpiry (r : Fin 32) : Statement (.periodTimerExpiry r) := regulatorIndex?_fin r

theorem holdTimerExpiry : Statement (.holdTimerExpiry) := rfl

theorem stallWindowExpiry (r : Fin 32) : Statement (.stallWindowExpiry r) := regulatorIndex?_fin r

theorem ackTimerExpiry (c : Fin 16) : Statement (.ackTimerExpiry c) := channelIndex?_fin c

theorem probeTimerExpiry (c : Fin 16) : Statement (.probeTimerExpiry c) := channelIndex?_fin c

theorem resendTimerExpiry : Statement (.resendTimerExpiry) := rfl

theorem sweepStepExpiry : Statement (.sweepStepExpiry) := rfl

theorem identify : Statement (.identify) := rfl

theorem readStatus : Statement (.readStatus) := rfl

theorem bind : Statement (.bind) := rfl

theorem unbind : Statement (.unbind) := rfl

theorem restart : Statement (.restart) := rfl

theorem clearAll : Statement (.clearAll) := rfl

theorem setChain : Statement (.setChain) := rfl

theorem setOverride : Statement (.setOverride) := rfl

theorem writePoint : Statement (.writePoint) := rfl

theorem readPoint : Statement (.readPoint) := rfl

theorem deletePoint : Statement (.deletePoint) := rfl

theorem findPoint : Statement (.findPoint) := rfl

theorem setWatch : Statement (.setWatch) := rfl

theorem clearWatch : Statement (.clearWatch) := rfl

theorem writeRegulator : Statement (.writeRegulator) := rfl

theorem writeCurve : Statement (.writeCurve) := rfl

theorem readRegulator : Statement (.readRegulator) := rfl

theorem enableRegulator : Statement (.enableRegulator) := rfl

theorem disableRegulator : Statement (.disableRegulator) := rfl

theorem takeManual : Statement .takeManual := rfl

theorem setManualLevel : Statement (.setManualLevel) := rfl

theorem releaseManual : Statement (.releaseManual) := rfl

theorem writeActuator : Statement (.writeActuator) := rfl

theorem readActuator : Statement (.readActuator) := rfl

theorem resetActuator : Statement (.resetActuator) := rfl

theorem ackNotes : Statement (.ackNotes) := rfl

theorem sweep : Statement (.sweep) := rfl

theorem writeCounters : Statement (.writeCounters) := rfl

theorem readCounters : Statement (.readCounters) := rfl

theorem symbolReceived (x : Symbol) : Statement (.symbolReceived x) := rfl

theorem malformedRequest : Statement (.malformedRequest) := rfl

end Sys2Proof.Laws.OperandRange
end

