-- ==== Sys2Proof/Laws/Requests.lean ====
section
/-! SUPPORT. What taking a request from the input FIFO can do: nothing while it cannot be taken, and otherwise one of the five ends of a
request (discarded for its src, answered from the cache, discarded as PENDING, refused, executed); and what a READ_STATUS can do. -/

namespace Sys2Proof.Machine

variable (accepts : Request → Bool) (owner : Owner) {q : Request} {rest : List Request} {s : State}

/-- The part of the state after the head of the FIFO is removed. -/
def State.dequeued (s : State) (rest : List Request) : State := s.withRu { s.ru with fifo := rest }

/-- R146: with the slot or the ready list occupied no request is taken. -/
theorem takeRequest_blocked (h : s.ru.slot.isSome ∨ s.ru.ready ≠ []) : takeRequest accepts owner s = s := by
  unfold takeRequest
  split
  · rfl
  · next q rest _ =>
    rcases h with h | h
    · cases hs : s.ru.slot <;> simp_all
    · cases hr : s.ru.ready <;> simp_all

/-- R146: with a request in execution no request is taken. -/
theorem takeRequest_executing (h : s.ru.execution.isSome) : takeRequest accepts owner s = s := by
  unfold takeRequest
  split
  · rfl
  · cases hx : s.ru.execution <;> simp_all

/-- R146: with the FIFO empty no request is taken. -/
theorem takeRequest_empty (h : s.ru.fifo = []) : takeRequest accepts owner s = s := by
  unfold takeRequest; rw [h]

/-- A command takes no request of another code. -/
theorem takeRequest_other (h : s.ru.fifo = q :: rest) (ha : accepts q = false) : takeRequest accepts owner s = s := by
  unfold takeRequest; rw [h]; simp [ha]

/-- R146: the request at the head is taken when slot and ready list are empty and no request is in execution. -/
theorem takeRequest_takes (hf : s.ru.fifo = q :: rest) (hs : s.ru.slot = none) (hr : s.ru.ready = []) (hx : s.ru.execution = none)
    (ha : accepts q = true) : takeRequest accepts owner s = serve owner q (s.dequeued rest) := by
  unfold takeRequest; rw [hf]; simp [ha, hs, hr, hx, State.dequeued]

/-- R147: a request with an unusable src is discarded. -/
theorem serve_unusable (h : srcUsable q.src = false) : serve owner q s = signal .reqDropped s := by
  unfold serve; simp [h]

/-- R148: a request that matches a DONE entry is answered from the cache. -/
theorem serve_cached {r : Reply} {ref : EntryRef} (h : srcUsable q.src = true) (hm : s.ru.find q.ref = some ⟨ref, .done r⟩) :
    serve owner q s = s.withRu (s.ru.place r) := by
  unfold serve; simp [h, hm]

/-- R148: a request that matches a PENDING entry is discarded. -/
theorem serve_pending {ref : EntryRef} (h : srcUsable q.src = true) (hm : s.ru.find q.ref = some ⟨ref, .pending⟩) :
    serve owner q s = s := by
  unfold serve; simp [h, hm]

/-- R149: a request that matches no entry is new. -/
theorem serve_new (h : srcUsable q.src = true) (hm : s.ru.find q.ref = none) : serve owner q s = serveNew owner q s := by
  unfold serve; simp [h, hm]

/-- R150: a malformed request is refused with BAD_REQUEST before its owner is reached. -/
theorem serveNew_malformed (h : q.formatOk = false) :
    serveNew owner q s = finish q (refuse .badRequest) (s.withRu s.ru.makeRoom) := by
  unfold serveNew; simp [h]

/-- R151: a request without authority is refused with NOT_MANAGER before its owner is reached. -/
theorem serveNew_unauthorised (h : q.formatOk = true) (ha : authorised s.ru.manager q = false) :
    serveNew owner q s = finish q (refuse .notManager) (s.withRu s.ru.makeRoom) := by
  unfold serveNew; simp [h, ha]

/-- R152: any other request is executed as its owner's claim. -/
theorem serveNew_executed (h : q.formatOk = true) (ha : authorised s.ru.manager q = true) :
    serveNew owner q s =
      finish q (owner q (s.withRu s.ru.makeRoom)).2 (owner q (s.withRu s.ru.makeRoom)).1 := by
  unfold serveNew; simp [h, ha]

/-- No entry matches a pair that every entry differs from. -/
theorem find_none {ref : EntryRef} (h : ∀ e ∈ s.ru.recent, e.ref ≠ ref) : s.ru.find ref = none := by
  unfold RequestUnit.find
  exact List.find?_eq_none.2 (fun e he => by simp [h e he])

/-! ## Replies -/

/-- R153: with slot and ready list empty a reply enters the slot. -/
theorem place_empty {u : RequestUnit} (hs : u.slot = none) (hr : u.ready = []) (r : Reply) : u.place r = { u with slot := some r } := by
  simp [RequestUnit.place, hs, hr]

/-- R153: behind a reply a reply joins the ready list. -/
theorem place_behind {u : RequestUnit} (hs : u.slot.isSome) (r : Reply) : u.place r = { u with ready := u.ready ++ [r] } := by
  simp [RequestUnit.place, Option.isSome_iff_ne_none.1 hs]

/-- An OK reply is placed and counts nothing. -/
theorem formReply_ok {r : Reply} (h : r.status = .ok) : formReply r s = s.withRu (s.ru.place r) := by
  simp [formReply, h]

/-- A refusal is placed and gives one REQ_REFUSED event. -/
theorem formReply_refused {r : Reply} (h : r.status ≠ .ok) : formReply r s = signal .reqRefused (s.withRu (s.ru.place r)) := by
  simp [formReply, h]

/-! ## READ_STATUS (R159) -/

/-- A group already read stays as it was read. -/
@[simp] theorem readOnce_some {α : Type} (now : Bool) (v w : α) : readOnce now v (some w) = some w := rfl

/-- A group not yet read is read where it is named. -/
@[simp] theorem readOnce_none {α : Type} (now : Bool) (v : α) : readOnce now v none = if now then some v else none := rfl

/-- The reply has its data exactly when all six groups are read. -/
theorem StatusRead.data?_some {r : StatusRead} {data : List Byte} : r.data? = some data ↔
    ∃ o w u c f n, r = { taken := r.taken, override := some o, sweep := some w, requests := some u, chain := some c, frozen := some f,
                         notes := some n } ∧ data = statusData r.taken o w u c f n := by
  rcases r with ⟨t, o, w, u, c, f, n⟩
  constructor
  · intro h
    cases o <;> cases w <;> cases u <;> cases c <;> cases f <;> cases n <;>
      cases h <;> exact ⟨_, _, _, _, _, _, rfl, rfl⟩
  · rintro ⟨o, w, u, c, f, n, h, rfl⟩
    cases h
    rfl

/-- With every group read the request is answered OK; with one left it stays in execution. -/
theorem StatusRead.verdict_cases (r : StatusRead) :
    (∃ data, r.data? = some data ∧ r.verdict = .reply .ok data) ∨ (r.data? = none ∧ r.verdict = .reading r) := by
  unfold StatusRead.verdict
  cases h : r.data? with
  | some data => exact .inl ⟨data, rfl, rfl⟩
  | none => exact .inr ⟨rfl, rfl⟩

/-- Reading every group leaves none to read. -/
theorem StatusRead.read_all (r : StatusRead) : ∃ data, (r.read StatusGroup.all s).data? = some data := by
  rcases r with ⟨t, o, w, u, c, f, n⟩
  cases o <;> cases w <;> cases u <;> cases c <;> cases f <;> cases n <;> exact ⟨_, rfl⟩

/-- A READ_STATUS reads the groups of the choice it meets and takes that off, or reads all that are left. -/
theorem readStatusOn_cases (r : StatusRead) (s : State) :
    (∃ gs later, s.turns = .groups gs :: later ∧ readStatusOn r s = (s.withTurns later, (r.read gs s).verdict)) ∨
      ((∀ gs, s.turns.head? ≠ some (.groups gs)) ∧ readStatusOn r s = (s, (r.read StatusGroup.all s).verdict)) := by
  unfold readStatusOn
  split
  · next gs later h => exact .inl ⟨gs, later, h, rfl⟩
  · next h => exact .inr ⟨fun gs hg => by
      cases ht : s.turns with
      | nil => simp [ht] at hg
      | cons a l => simp only [ht, List.head?_cons, Option.some.injEq] at hg; exact h gs l (hg ▸ ht), rfl⟩

/-- A request that stays in execution makes no entry and no reply. -/
theorem finish_reading (q : Request) (r : StatusRead) :
    finish q (.reading r) s = s.withRu (s.ru.executing (some { request := q, read := r })) := rfl

/-- The READ_STATUS command goes on with the request in execution, and takes one when there is none. -/
theorem execReadStatus_cases (s : State) :
    (∃ x, s.ru.execution = some x ∧ execReadStatus s = .next (continueReadStatus x s)) ∨
      (s.ru.execution = none ∧ execReadStatus s = .next (takeRequest (hasCode .readStatus) ownReadStatus s)) := by
  unfold execReadStatus
  cases h : s.ru.execution with
  | some x => exact .inl ⟨x, rfl, rfl⟩
  | none => exact .inr ⟨rfl, rfl⟩

/-- R149: room is made only in a full list. -/
theorem makeRoom_short {u : RequestUnit} (h : u.recent.length < 4) : u.makeRoom = u := by
  simp [RequestUnit.makeRoom, Config.recentMax, h]

end Sys2Proof.Machine
end

