-- ==== Sys2Proof/Tests/Slice0.lean ====
section
/-! SUPPORT. The package's own tests: the checks of WellFormed refuse ill-formed terms; one step of each command on data of the manual's
worked examples; and for each statement with hypotheses a state and operands that meet them (`witness_…`). -/

set_option Elab.async false

namespace Sys2Proof.Tests
open Sys2Proof.Machine Sys2Proof.Claims

/-! ## Helpers -/

/-- The state a command leads to. -/
def after (i : Instr) (s : State) : State :=
  match exec i s with
  | .next t => t
  | .fault _ | .refused _ => s

def bytes (p : List Nat) : List Byte := p.map byteOf

/-- Request 7 of node 1 with a payload. -/
def ask (p : List Nat) : Request where
  src := 1
  seq := 7
  payload := bytes p

/-- The state with that request alone in the FIFO, no reply waiting and none in execution. -/
def asking (p : List Nat) (s : State) : State := { s with ru := { s.ru with fifo := [ask p], slot := none, ready := [], execution := none } }

/-- The status and data of the reply in the slot. -/
def answer (s : State) : Option (Status × List Nat) := s.ru.slot.map (fun r => (r.status, r.data.map BitVec.toNat))

/-- The state with the Timebase at a value. -/
def at_ (t : Nat) (s : State) : State := s.withTimebase (BitVec.ofNat 32 t)

/-- A frame that has ended and awaits the checks. -/
def arrived (f : Frame) (s : State) : State :=
  s.withCi { s.ci with rx := { s.ci.rx with awaiting := some { bytes := f.bytes, ending := .delimited, endedAt := s.timebase } } }

/-- A frame of a type with a payload; src 9, hops 6, seq 77. -/
def frame (dest type : Nat) (p : List Nat) : Frame where
  dest := byteOf dest
  src := 9
  type := byteOf type
  hops := 6
  seq := 77
  payload := bytes p

/-! ## A lawful state in which every block is at work -/

/-- Point 3, a SPEED point of node 9, channel 2. -/
def fanPoint : Point where
  config :=
    { key := { node := 9, channel := 2 }, kind := .speed, gain := 256, offset := 0, shift := 2
      thresholds := { lowCrit := none, lowWarn := none, highWarn := some 450, highCrit := some 600 }
      hyst := 20, maxAge := some 20, escalate := true, bandNotes := true, forward := .onChange, deadband := 10, refresh := 4 }
  runtime :=
    { band := .normal, filtered := some 412, lastRaw := some 412, lastConverted := some 412, min := some 300, max := some 420
      count := 4, lastSeen := some 4800, lastForwarded := some 410, sinceForward := 1 }
  staleTimer := some 6800
  watch := some { threshold := 500, direction := .above, note := true, valid := true, tripped := false }

/-- Regulator 4 of section 4.4's worked example, in AUTO, with point 3 as its input and its feedback point. -/
def fanRegulator : Regulator where
  config :=
    { inputs := [3], combine := .max, offAllowed := true, offHyst := 20, ceiling := 900, failsafe := 700, slew := 100, period := 10
      actuator := 3, feedback := some 3, stallFloor := 600, stallWindow := 30, participate := true }
  curve := [{ input := 250, level := 200 }, { input := 350, level := 400 }, { input := 450, level := 800 }, { input := 600, level := 1000 }]
  state := .auto
  output := some 648
  offLatched := false
  manualLevel := none
  handover := none
  periodTimer := some 5900

/-- Channel 3 of section 6.4's worked example, IDLE. -/
def fanChannel : Channel where
  config := { node := 33, nodeChannel := 1, ackTimeout := 30, retryLimit := 3 }
  state := .idle
  seq := 40
  inFlight := none
  transmitting := false
  desired := some 648
  acked := some 648
  retries := 0
  probing := false
  ackTimer := none
  probeTimer := none
  justOpened := false

/-- The descriptor of a sweep over the whole table after its first expiry. -/
def halfSweep : Sweep where
  first := 0
  last := 255
  stats := true
  rebase := true
  next := 16
  visited := 1
  entry := { src := 1, seq := 5 }
  stepTimer := some 5001

/-- A part strapped to 20 at Timebase 5000, bound to manager 1, that sweeps, with a note in flight and a frame in reception, one that
awaits the checks and one in transit. The next command is RESEND_TIMER_EXPIRY. -/
def shelf : State where
  timebase := 5000
  ci :=
    { straps := 20, link := .up, downStart := none, linkTimer := some 5015
      rx := { collecting := some [9], awaiting := some { bytes := [1, 2, 3], ending := .delimited, endedAt := 5000 } }
      sample := none, transit := [frame 1 1 [2, 1, 156]], hopBudget := 32, port := .free, lastClass := some .transit, roundRobin := 2 }
  points := (Vector.replicate 256 none).set 3 (some fanPoint)
  regs := (Vector.replicate 32 Regulator.default).set 4 fanRegulator
  om := OverrideMonitor.cleared 10
  sups := (Vector.replicate 32 Supervisor.reset).set 4 { stalled := false, window := some 8000 }
  chans := (Vector.replicate 16 Channel.default).set 3 fanChannel
  ru :=
    { fifo := [], slot := none, ready := [], execution := none, manager := some 1
      recent := [{ ref := { src := 1, seq := 5 }, status := .pending },
        { ref := { src := 1, seq := 6 }, status := .done { src := 1, seq := 6, code := 3, status := .ok, data := [1] } }] }
  nu :=
    { inFlight := [{ note := { kind := .link, subject := none, value := 3, severity := .warn, timestamp := 100 }, sequence := 499, lost := 0 }]
      unsent := [{ kind := .stale, subject := some 3, value := 1, severity := .warn, timestamp := 200 }]
      nextSequence := 500, lost := 0, resendTimer := some 4990, due := [], alert := AlertRecord.clear }
  sweep := some halfSweep
  counters := { counter := #v[{ Counter.off with selector := some .framesIn, value := 1000 }, Counter.off, Counter.off, Counter.off]
                frozen := false }
  pending := [.resendTimerExpiry]
  turns := []

theorem shelf_point (i : Fin 256) : shelf.point i = if i = 3 then some fanPoint else none := by
  revert i; decide +kernel

theorem shelf_reg (r : Fin 32) : shelf.reg r = if r = 4 then fanRegulator else Regulator.default := by
  revert r; decide +kernel

theorem shelf_chan (c : Fin 16) : shelf.chan c = if c = 3 then fanChannel else Channel.default := by
  revert c; decide +kernel

theorem shelf_sup (r : Fin 32) : shelf.sup r = if r = 4 then { stalled := false, window := some 8000 } else Supervisor.reset := by
  revert r; decide +kernel

theorem fanPoint_lawful : fanPoint.Lawful where
  config := { node := by decide, gain := by decide, offset := by decide, ascending := by decide, hyst := by decide
              maxAge := by decide, deadband := by decide, refresh := by decide }
  fresh := by decide
  unknown := by decide
  timer := by decide
  watch := by intro w h; cases h; decide
  filtered := by intro w h; cases h; decide
  converted := by intro w h; cases h; decide
  count := by decide
  since := by decide

theorem fanRegulator_lawful : fanRegulator.Lawful where
  ranges := { inputs := by decide, offHyst := by decide, ceiling := by decide, failsafe := by decide, slew := by decide
              period := by decide, stallWindow := by decide, curve := by decide, output := by intro l h; cases h; decide
              manual := by intro l h; cases h }
  manual := by decide
  handover := by decide
  timer := by decide
  output := by decide
  enabled := by decide

theorem idleRegulator_lawful : Regulator.default.Lawful where
  ranges := { inputs := by decide, offHyst := by decide, ceiling := by decide, failsafe := by decide, slew := by decide
              period := by decide, stallWindow := by decide, curve := by decide, output := by intro l h; cases h
              manual := by intro l h; cases h }
  manual := by decide
  handover := by decide
  timer := by decide
  output := by decide
  enabled := by decide

theorem fanChannel_lawful : fanChannel.Lawful where
  node := by decide
  ackTimeout := by decide
  retryLimit := by decide
  retries := by decide
  idle_retries := by decide
  inFlight := by decide
  ackTimer := by decide
  probeTimer := by decide
  transmitting := by decide
  probing := by decide
  working := by decide
  acked := by intro l h; cases h; decide

theorem idleChannel_lawful : Channel.default.Lawful where
  node := by decide
  ackTimeout := by decide
  retryLimit := by decide
  retries := by decide
  idle_retries := by decide
  inFlight := by decide
  ackTimer := by decide
  probeTimer := by decide
  transmitting := by decide
  probing := by decide
  working := by decide
  acked := by intro l h; cases h

/-! ## The shelf keeps every law -/

theorem shelf_notes : NoteLaw shelf where
  depth := by decide
  window := by decide
  unlike := by decide
  bound := by decide
  sequences := ⟨by decide, trivial⟩
  due_in_flight := by intro q h; cases h
  due_once := by decide
  timer := by decide
  lost := by decide

theorem shelf_override : OverrideLaw shelf where
  members := by intro i h; cases h
  once := by decide
  ascending := List.Pairwise.nil
  active := by decide
  hold := by decide
  start := by decide
  regulators := by intro r h; rw [shelf_reg] at h; split at h <;> cases h
  alert := by decide

theorem shelf_points : PointLaw shelf where
  keys := by
    intro i j p q hi hj _
    rw [shelf_point] at hi hj
    split at hi <;> split at hj <;> simp_all
  records := by
    intro i p h
    rw [shelf_point] at h
    split at h <;> cases h
    exact fanPoint_lawful

theorem shelf_regulators : RegulatorLaw shelf where
  records := by intro r; rw [shelf_reg]; split; exacts [fanRegulator_lawful, idleRegulator_lawful]
  inputs := by
    intro r i h
    rw [shelf_reg] at h
    split at h
    · obtain rfl : i = 3 := by simpa [fanRegulator] using h
      rw [shelf_point]; rfl
    · cases h
  feedback := by
    intro r i h
    rw [shelf_reg] at h
    split at h
    · obtain rfl : i = 3 := by
        by_contra hi
        have : fanRegulator.feedsBack i = decide (some 3 = some i) := rfl
        rw [this, decide_eq_true_eq] at h
        exact hi (Option.some.inj h).symm
      exact ⟨fanPoint, by rw [shelf_point]; rfl, rfl⟩
    · cases h
  channels := by
    intro r q c hr hq
    rw [shelf_reg] at hr hq
    split at hr <;> split at hq
    · simp_all
    · cases hq
    · cases hr
    · cases hr
  bound := by intro r h; rw [shelf_reg] at h ⊢; split at h <;> first | (rw [if_pos ‹_›, shelf_chan]; rfl) | exact absurd rfl h

theorem shelf_channels : ChannelLaw shelf where
  records := by intro c; rw [shelf_chan]; split; exacts [fanChannel_lawful, idleChannel_lawful]
  bindings := by
    intro c d hb hn _
    rw [shelf_chan] at hb hn
    rw [shelf_chan] at hn
    split at hn <;> split at hn <;> simp_all [fanChannel, Channel.default, Channel.bound]
  wire := by intro c h; rw [shelf_chan] at h; split at h <;> cases h
  alert := by
    decide +kernel

theorem shelf_levels : LevelLaw shelf := by
  intro c
  rw [shelf_chan]
  split
  · exact ⟨by intro l h; cases h; decide, by intro l h; cases h⟩
  · constructor <;> (intro l h; cases h)

theorem shelf_supervisors : SupervisorLaw shelf where
  inactive := by intro r h; rw [shelf_reg] at h; rw [shelf_sup]; split at h <;> simp_all [Regulator.supervised, fanRegulator, Regulator.configured]
  window := by intro r h; rw [shelf_sup] at h ⊢; split at h <;> simp_all [armed, shelf_reg, shelf_chan, fanRegulator, fanChannel, arms, Supervisor.reset]; try decide
  alert := by
    decide +kernel

theorem shelf_requests : RequestLaw shelf where
  fifo := by decide
  slot := by decide
  recent := by decide
  pairs := by decide
  pending := by decide
  replies := by decide
  owners := by decide +kernel
  owned := by
    have : awaited shelf = [{ src := 1, seq := 5 }] := by decide +kernel
    intro ref
    rw [this]
    simp [shelf]
  nodes := by decide
  manager := by intro m h; cases h; decide
  executing := by intro x h; cases h

theorem shelf_sweep : SweepLaw shelf := by
  intro d h
  cases h
  decide

theorem shelf_chain : ChainLaw shelf where
  transit := by decide
  collecting := by intro bs h; cases h; decide
  awaiting := by intro f h; cases h; decide
  up := by decide
  sample := by intro w h; cases h
  silent := by decide
  idle := by decide +kernel
  budget := by decide

/-- The shelf is a state with every law: no law of Safety.lean contradicts another. -/
theorem shelf_inv : Inv shelf where
  notes := shelf_notes
  override := shelf_override
  points := shelf_points
  regulators := shelf_regulators
  channels := shelf_channels
  levels := shelf_levels
  supervisors := shelf_supervisors
  requests := shelf_requests
  sweep := shelf_sweep
  chain := shelf_chain
  transparent := by intro h; cases h

/-! ## WellFormed refuses what is out of range; no word spells a command -/

theorem test_pointIndex_256_refused : pointIndex? 256 = none ∧ (pointIndex? 255).isSome := by decide
theorem test_regulatorIndex_32_refused : regulatorIndex? 32 = none ∧ (regulatorIndex? 31).isSome := by decide
theorem test_channelIndex_16_refused : channelIndex? 16 = none ∧ (channelIndex? 15).isSome := by decide
theorem test_nodeChannel_16_refused : nodeChannel? 16 = none ∧ (nodeChannel? 15).isSome := by decide
theorem test_straps_128_refused : straps? 128 = none ∧ straps? 127 = some 127 := by decide
theorem test_no_word_spells_a_command : decodeTableWord 16 0x1234 = none ∧ State.reset.withFetchWord 16 0x1234 = State.reset :=
  ⟨rfl, rfl⟩

/-! ## Formats (chapter 11) -/

/-- Section 11.1: the check value of the CRC over the digits 1 to 9 is 29B1H. -/
theorem test_crc_check_value : crc (bytes [0x31, 0x32, 0x33, 0x34, 0x35, 0x36, 0x37, 0x38, 0x39]) = 0x29B1 := by decide +kernel

/-! ## Chain Interface (chapter 1) -/

/-- R20. -/
theorem test_coldReset :
    let t := after (.coldReset 127) shelf
    (t.ci.hopBudget, t.ci.roundRobin, t.ci.linkTimer, t.transparent, t.point 3) = (32, 15, some 20, true, none) := by decide +kernel

/-- Section 2.6 of the conventions. -/
theorem test_timebaseAdvance_wraps : (after .timebaseAdvance (at_ 4294967295 shelf)).timebase = 0 := by decide

/-- Section 1.5, frame 5 of the worked example but with room in the transit queue: a foreign type goes on with hops 2. -/
theorem test_frameEnd_forwards :
    (after .frameEnd (arrived { dest := 127, src := 44, type := 9, hops := 3, seq := 0, payload := [] } shelf)).ci.transit.map (·.hops)
      = [6, 2] := by decide +kernel

/-- Section 1.3, the table: 41 450. -/
theorem test_frameEnd_link_note :
    let s := at_ 41450 (State.reset.withCi { State.reset.ci with downStart := some 41000 })
    let t := after .frameEnd (arrived (frame 1 9 []) s)
    (t.ci.link, t.nu.unsent.map (fun n => (n.kind, n.value))) = (.up, [(.link, 450)]) := by decide +kernel

/-- Section 1.3, the table: 41 020. -/
theorem test_linkDown :
    let s := at_ 41020 (State.reset.withCi { State.reset.ci with link := .up, linkTimer := some 41020 })
    let t := after .linkDownTimerExpiry s
    (t.ci.link, t.ci.downStart, t.ci.linkTimer) = (.down, some 41000, none) := by decide +kernel

/-- R4, R2: a symbol at 5000 restarts the timer; a data byte is collected. -/
theorem test_symbol :
    let t := after (.symbolReceived (.data 7)) shelf
    (t.ci.linkTimer, t.ci.rx.collecting) = (some 5020, some [9, 7]) := by decide +kernel

/-- Section 1.8, step 3: a reply goes before transit when the last class is TRANSIT. -/
theorem test_grant_reply :
    let t := after .egressGrant { shelf with ru := { shelf.ru with slot := some { src := 1, seq := 6, code := 3, status := .ok, data := [1] } } }
    (t.ci.port, t.ci.lastClass, t.ru.slot)
      = (.busy .reply (Frame.bytes { dest := 1, src := 20, type := 5, hops := 32, seq := 6, payload := [3, 0, 1] }), some .originated, none) := by
  decide +kernel

/-- Section 1.8, step 8: the search starts at 3 behind the pointer 2 and finds channel 5. -/
theorem test_grant_round_robin :
    let k : Channel := { fanChannel with state := .sending, inFlight := some 400 }
    let t := after .egressGrant ((shelf.setChan 5 k).setChan 1 k)
    (t.ci.roundRobin, (t.chan 5).transmitting, (t.chan 1).transmitting) = (5, true, false) := by decide +kernel

/-- Section 6.4, the worked example: egress-done at 1001. -/
theorem test_egressDone_starts_ack_timer :
    let k : Channel := { fanChannel with state := .sending, seq := 41, inFlight := some 400, transmitting := true }
    let t := after .egressDone ((at_ 1001 (shelf.withCi { shelf.ci with port := .busy (.channel 3) [] })).setChan 3 k)
    ((t.chan 3).state, (t.chan 3).ackTimer, t.ci.port) = (.awaitAck, some 1301, .free) := by decide +kernel

/-! ## Point Engine (chapters 2 and 3) -/

/-- Point 12 of section 2.6's worked example as written at 5000: WRITE_POINT with gain 200, offset −100. -/
def write12 : List Nat := [16, 12, 9, 2, 0, 0, 200, 255, 156, 2, 28, 0, 0, 0, 0, 1, 194, 2, 88, 0, 0, 20, 1, 1, 0, 0, 0, 1]

/-- The part of section 2.6's worked example after the write, and with its request answered and forgotten. -/
def written12 : State := after .writePoint (asking write12 (at_ 5000 State.reset))
def room : State := { written12 with ru := RequestUnit.cold }

/-- 5000: UNKNOWN, the timer to 7000. -/
theorem test_writePoint :
    (answer written12, (room.point 12).map (fun p => (p.runtime.band, p.staleTimer, p.config.offset)))
      = (some (.ok, [12]), some (.unknown, some 7000, -100)) := by decide +kernel

/-- 5300: raw 560 gives 337, NORMAL, the timer to 7300. -/
def read5300 : State := after .frameEnd (arrived (frame 1 1 [2, 2, 48]) (at_ 5300 room))

theorem test_frameEnd_reading :
    (read5300.point 12).map (fun p => (p.runtime.filtered, p.runtime.band, p.runtime.count, p.staleTimer))
      = some (some 337, .normal, 1, some 7300) := by decide +kernel

/-- R38: FRAME_END stops after the first of two readings of point 12, the record is deleted, and the next FRAME_END finds the second one
unmatched: it stays in the frame, as the first one does (PASS). -/
theorem test_frameEnd_divided :
    let t := after .frameEnd ((arrived (frame 1 1 [2, 2, 48, 2, 2, 48]) (at_ 5300 room)).withTurns [.readings 1, .readFirst])
    let u := after .deletePoint (asking [18, 12] t)
    let v := after .frameEnd u
    ((t.point 12).map (·.runtime.count), t.ci.sample.map (fun w => (w.kept.length, w.left.length)), (u.point 12).isNone,
        v.ci.sample, v.ci.transit.map (·.payload))
      = (some 1, some (1, 1), true, none, [bytes [2, 2, 48, 2, 2, 48]]) ∧ (t.turns, v.turns) = ([.readFirst], [.readFirst]) := by decide +kernel

/-- Section 2.7's worked example: the key of point 12 written at index 8 is DUPLICATE_KEY. -/
theorem test_writePoint_duplicate : answer (after .writePoint (asking (16 :: 8 :: write12.drop 2) room)) = some (.duplicateKey, []) := by
  decide +kernel

/-- 8800: STALE, the filtered value kept, a STALE note WARN with value NORMAL. -/
theorem test_staleness :
    let t := after (.stalenessExpiry 12) (at_ 7300 read5300)
    ((t.point 12).map (fun p => (p.runtime.band, p.runtime.filtered, p.staleTimer)), t.nu.unsent.map (fun n => (n.kind, n.value, n.severity)))
      = (some (.stale, some 337, none), [(.stale, 1, .warn)]) := by decide +kernel

/-- Section 2.4, reading 1: k = 2 and 290 filtered, 259 arrives: 283. -/
theorem test_filter : smooth 2 { fanPoint.runtime with filtered := some 290 } 259 = 283 := by decide

/-- Section 3.3, readings 6 and 12: 470 retreats to WARN_HIGH, 510 crosses from CRIT_LOW. -/
theorem test_bands :
    let t : Thresholds := { lowCrit := some 50, lowWarn := some 100, highWarn := some 400, highCrit := some 500 }
    (nextBand t 20 .critHigh 485, nextBand t 20 .critHigh 470, nextBand t 20 .critLow 510) = (.critHigh, .warnHigh, .critHigh) := by decide

/-- R39 and section 11.7: the reply is 60 bytes with its code and status. -/
theorem test_readPoint_length : (answer (after .readPoint (asking [17, 3] shelf))).map (fun a => (a.1, a.2.length)) = some (.ok, 58) := by
  decide +kernel

/-- R40: a point that a regulator names is IN_USE; a free index is NOT_FOUND. -/
theorem test_deletePoint :
    (answer (after .deletePoint (asking [18, 3] shelf)), answer (after .deletePoint (asking [18, 9] shelf)),
      (after .deletePoint (asking [18, 12] room)).point 12) = (some (.inUse, []), some (.notFound, []), none) := by decide +kernel

/-- R41. -/
theorem test_findPoint :
    (answer (after .findPoint (asking [19, 9, 2] room)), answer (after .findPoint (asking [19, 127, 2] room)))
      = (some (.ok, [12]), some (.range, [])) := by decide +kernel

/-- Section 3.5, step 1: SET_WATCH 512, ABOVE; step 2's reading 712 trips it. -/
theorem test_setWatch :
    let w := ((after .setWatch (asking [20, 12, 2, 0, 0, 1] room)).point 12).bind (·.watch)
    (w.map (fun w => (w.threshold, w.valid, w.tripped)), (w.map (fun w => w.evaluate 712)).map (fun w => (w.valid, w.tripped)))
      = (some (512, false, false), some (true, true)) := by decide +kernel

/-- R56. -/
theorem test_clearWatch : ((after .clearWatch (asking [21, 3] shelf)).point 3).map (·.watch) = some none := by decide +kernel

/-! ## Regulator Engine (chapters 4, 5 and 7) -/

/-- Section 4.4: x = 517 gives 889. -/
theorem test_curve : curveTarget fanRegulator.curve 517 = 889 ∧ curveTarget fanRegulator.curve 180 = 200 := by decide

/-- Section 4.4, evaluation 2: x = 412, output 300 becomes 400; the channel is told. -/
theorem test_period :
    let t := after (.periodTimerExpiry 4) (at_ 5900 (shelf.setReg 4 { fanRegulator with output := some 300 }))
    ((t.reg 4).output, (t.chan 3).desired, (t.reg 4).periodTimer) = (some 400, some 400, some 6900) := by decide +kernel

/-- Section 4.6: a WRITE_REGULATOR of regulator 9 that names channel 3 is CONFLICT; inputs (3, 3) are RANGE. -/
theorem test_writeRegulator :
    let p (inputs : List Nat) := [32, 9, 0, 0, 0, 3, 32, 2, 88, 3, 232, 10, 3, 0, 0, 0, 0, 30, 1] ++ inputs
    (answer (after .writeRegulator (asking (p [3]) shelf)), answer (after .writeRegulator (asking (p [3, 3]) shelf)))
      = (some (.conflict, []), some (.range, [])) := by decide +kernel

/-- Section 4.6: one breakpoint is RANGE; (300, 250), (500, 1000) pass. -/
theorem test_writeCurve :
    let t := after .writeCurve (asking [33, 9, 1, 44, 0, 250, 1, 244, 3, 232] shelf)
    (answer (after .writeCurve (asking [33, 9, 1, 44, 0, 250] shelf)), answer t, (t.reg 9).curve.map (fun b => (b.input, b.level)))
      = (some (.range, []), some (.ok, [9]), [(300, 250), (500, 1000)]) := by decide +kernel

/-- Section 11.7: part 0 begins index, part, state AUTO, presence of output and timer, the running window, output 648. -/
theorem test_readRegulator :
    (answer (after .readRegulator (asking [34, 4, 0] shelf))).map (fun a => a.2.take 7) = some [4, 0, 1, 5, 8, 2, 136] := by decide +kernel

/-- Section 4.6: an enable with no fresh input ends in FAILSAFE at the failsafe level, with a WARN note. -/
theorem test_enable :
    let p := { fanPoint with runtime := { fanPoint.runtime with band := .stale } }
    let t := after .enableRegulator (asking [35, 4] ((shelf.setPoint 3 (some p)).setReg 4 { fanRegulator with state := .disabled }))
    ((t.reg 4).state, (t.reg 4).output, (t.chan 3).desired, t.nu.unsent.getLast?.map (fun n => (n.kind, n.value)))
      = (.failsafe, some 700, some 700, some (.regState, 2)) := by decide +kernel

/-- R90: DISABLED, the timer stopped, the channel's level left. -/
theorem test_disable :
    let t := after .disableRegulator (asking [36, 4] shelf)
    ((t.reg 4).state, (t.reg 4).periodTimer, (t.chan 3).desired, t.sup 4) = (.disabled, none, some 648, Supervisor.reset) := by decide +kernel

/-- The channel of section 7.3's worked example at 2000, its exchange open. -/
def busyFan : Channel :=
  { fanChannel with
    config := { fanChannel.config with retryLimit := 1 }
    state := .awaitAck, seq := 42, inFlight := some 500, desired := some 500, acked := some 400, ackTimer := some 2100 }

/-- 2000: TAKE_MANUAL 900 is deferred into HANDOVER. -/
def taken2000 : State := after .takeManual (asking [37, 4, 3, 132] (at_ 2000 (shelf.setChan 3 busyFan)))

theorem test_takeManual_deferred :
    answer taken2000 = none ∧ ((taken2000.reg 4).state, (taken2000.reg 4).manualLevel, (taken2000.reg 4).periodTimer, (taken2000.chan 3).desired)
      = (.handover, some 900, none, some 500) := by decide +kernel

/-- R139, third case: an evaluation at 5900 has opened an exchange for a new level. Behind it the TAKE_MANUAL finds the exchange open and
waits; with its read first it finds IDLE, and 900 coalesces into the exchange. -/
theorem test_takeManual_readFirst :
    let s := after (.periodTimerExpiry 4) (at_ 5900 (shelf.setReg 4 { fanRegulator with output := some 100 }))
    let early := after .takeManual ((asking [37, 4, 3, 132] s).withTurns [.readFirst])
    let late := after .takeManual (asking [37, 4, 3, 132] s)
    let passed := after .takeManual ((asking [37, 4, 3, 132] (after .timebaseAdvance s)).withTurns [.readFirst])
    ((s.chan 3).state, (s.chan 3).inFlight) = (.sending, some 200) ∧
      ((early.reg 4).state, answer early, (early.chan 3).inFlight, (early.chan 3).desired)
        = (.manual, some (.ok, [4, 3, 132, 0]), some 200, some 900) ∧
      ((late.reg 4).state, (passed.reg 4).state, early.turns, passed.turns) = (.handover, .handover, [], [.readFirst]) := by decide +kernel

/-- 2050: SET_MANUAL_LEVEL 950 in HANDOVER is OK and only stored. -/
theorem test_setManualLevel :
    let t := after .setManualLevel { taken2000 with ru := { taken2000.ru with fifo := [{ ask [38, 4, 3, 182] with seq := 19 }] } }
    (answer t, (t.reg 4).manualLevel, (t.chan 3).desired) = (some (.ok, [4, 3, 182, 0]), some 950, some 500) := by decide +kernel

/-- 2401: the ack timer at the limit completes the handover: MANUAL, the reply with the faulted flag, FAULT with the probe timer. -/
theorem test_ackTimer_completes_handover :
    let t := after (.ackTimerExpiry 3) (at_ 2401 (taken2000.setChan 3 { busyFan with retries := 1, ackTimer := some 2401 }))
    ((t.reg 4).state, answer t, (t.chan 3).state, (t.chan 3).probeTimer, (t.chan 3).desired)
      = (.manual, some (.ok, [4, 3, 132, 1]), .fault, some 7401, some 900) := by decide +kernel

/-- Section 7.5: from 950 with slew 100 and target 648 the release gives 850. -/
theorem test_releaseManual :
    let g := { fanRegulator with state := .manual, manualLevel := some 950, periodTimer := none }
    let t := after .releaseManual (asking [39, 4] (at_ 20000 (shelf.setReg 4 g)))
    ((t.reg 4).state, (t.reg 4).output, (t.reg 4).manualLevel, (t.reg 4).periodTimer, (t.chan 3).desired)
      = (.auto, some 850, none, some 21000, some 850) := by decide +kernel

/-- Section 5.2, 125 000: OVERRIDE_OFF with value 25, the regulator slews down from its ceiling. -/
theorem test_holdTimer :
    let s := (at_ 125000 shelf).setReg 4 { fanRegulator with state := .override, output := some 900 }
    let t := after .holdTimerExpiry (s.withOm { s.om with phase := .holding, holdTimer := some 125000, startTime := some 100000 })
    (t.om.phase, t.nu.unsent.getLast?.map (fun n => (n.kind, n.value)), (t.reg 4).state, (t.reg 4).output)
      = (.clear, some (.overrideOff, 25), .auto, some 800) := by decide +kernel

/-- Section 5.3, 14 000: STALLED, one STALL note CRIT with the acked level 400. -/
theorem test_stallWindow :
    let s := (at_ 14000 (shelf.setChan 3 { fanChannel with acked := some 400 })).setSup 4 { stalled := false, window := some 14000 }
    let t := after (.stallWindowExpiry 4) s
    (t.sup 4, t.nu.unsent.getLast?.map (fun n => (n.kind, n.severity, n.value)), t.alertAsserted)
      = ({ stalled := true, window := none }, some (.stall, .crit, 400), true) := by decide +kernel

/-- R103: 60 s is taken, 61 s is RANGE. -/
theorem test_setOverride :
    ((after .setOverride (asking [8, 60] shelf)).om.holdTime, answer (after .setOverride (asking [8, 61] shelf))) = (60, some (.range, [])) := by
  decide +kernel

/-! ## Actuator Exchange (chapter 6, section 12.7) -/

/-- Channel 5 of section 12.7 at 3001. -/
def silentFan : Channel :=
  { fanChannel with
    config := { node := 40, nodeChannel := 0, ackTimeout := 10, retryLimit := 2 }
    state := .awaitAck, seq := 21, inFlight := some 400, desired := some 400, acked := some 300, ackTimer := some 3101 }

/-- 3101: SENDING again with the same seq and level, retries 1. -/
theorem test_ackTimer_retries :
    let k := (after (.ackTimerExpiry 5) (at_ 3101 (shelf.setChan 5 silentFan))).chan 5
    (k.state, k.seq, k.inFlight, k.retries, k.ackTimer) = (.sending, 21, some 400, 1, none) := by decide +kernel

/-- 8303: the probe takes seq 22 and the level 500. -/
theorem test_probeTimer :
    let s := shelf.setChan 5 { silentFan with state := .fault, inFlight := none, desired := some 500, ackTimer := none, probeTimer := some 8303 }
    let k := (after (.probeTimerExpiry 5) (at_ 8303 s)).chan 5
    (k.state, k.seq, k.inFlight, k.probing, k.probeTimer) = (.sending, 22, some 500, true, none) := by decide +kernel

/-- Section 6.4, 1250: SET_ACK seq 41, OK, 400; the send check opens exchange 42 with 500. -/
theorem test_setAck :
    let k : Channel := { fanChannel with state := .awaitAck, seq := 41, inFlight := some 400, desired := some 500, acked := some 300, ackTimer := some 1301 }
    let t := takeAck 33 41 (bytes [1, 0, 1, 144]) (at_ 1250 (shelf.setChan 3 k))
    ((t.chan 3).state, (t.chan 3).seq, (t.chan 3).inFlight, (t.chan 3).acked) = (.sending, 42, some 500, some 400) := by decide +kernel

/-- R129: an enabled regulator names channel 3: STATE; channel 6 takes its binding to node 33, output 2. -/
theorem test_writeActuator :
    let t := after .writeActuator (asking [48, 6, 33, 2, 10, 3] shelf)
    (answer (after .writeActuator (asking [48, 3, 33, 1, 10, 3] shelf)), answer t, (t.chan 6).config.node)
      = (some (.state, []), some (.ok, [6]), 33) := by decide +kernel

/-- Section 11.7: index, node, output, timeout, retries, IDLE, seq 40, presence of desired, acked and regulator. -/
theorem test_readActuator :
    (answer (after .readActuator (asking [49, 3] shelf))).map (fun a => a.2.take 9) = some [3, 33, 1, 30, 3, 0, 40, 38, 0] := by decide +kernel

/-- R132: acked is forgotten, so the send check opens the next exchange. -/
theorem test_resetActuator :
    let k := (after .resetActuator (asking [50, 3] shelf)).chan 3
    (k.state, k.seq, k.inFlight, k.acked) = (.sending, 41, some 648, none) := by decide +kernel

/-! ## Requests, notes, sweep, counters (chapters 8 to 10) -/

/-- R130, last sentence: a write that leaves channel 15 unbound keeps its node_channel and changes the two limits. -/
theorem test_writeActuator_unbound :
    let t := after .writeActuator (asking [48, 15, 0, 4, 50, 2] shelf)
    (answer t, (t.chan 15).config) = (some (.ok, [15]), { node := 0, nodeChannel := 0, ackTimeout := 50, retryLimit := 2 }) := by decide +kernel

/-- R158. -/
theorem test_identify : answer (after .identify (asking [1] shelf)) = some (.ok, [90, 12, 144, 1, 20, 1, 0, 32, 16, 4, 32, 4, 4]) := by
  decide +kernel

/-- Section 11.7: phase CLEAR, hold time 10, no member, flags sweep and manager, the sweep 0 to 255 at 16, manager 1. -/
theorem test_readStatus :
    (answer (after .readStatus (asking [2] shelf))).map (fun a => a.2.take 18)
      = some [0, 10, 0, 0, 0, 0, 0, 0, 0, 0, 0, 0, 3, 0, 255, 0, 16, 1] := by decide +kernel

/-- R159's own example: an OVERRIDE_ON raised behind the Override Monitor's read shows in the Note Queue depth while the phase shows CLEAR; the
Timebase is that of the taking. -/
theorem test_readStatus_divided :
    let begun := after .readStatus (asking [2] (shelf.withTurns [.groups [.overrideMonitor]]))
    let t := after .readStatus (at_ 5001 (joinCritical 3 begun))
    (answer begun, begun.ru.fifo, begun.nu.depth, t.om.phase, (answer t).map (fun a => (a.1, a.2.take 1 ++ a.2.drop 22)))
      = (none, [], 2, .active, some (.ok, [0, 3, 1, 0, 0, 19, 136])) := by decide +kernel

/-- R156: an unbound part is bound to the sender; another node's BIND is then refused. -/
theorem test_bind :
    ((after .bind (asking [3] State.reset)).ru.manager,
      answer (after .bind (asking [3] { shelf with ru := { shelf.ru with manager := some 2 } }))) = (some 1, some (.notManager, [])) := by
  decide +kernel

/-- R157, R174: the note in flight reverts ahead of the unsent one; the timer stops. -/
theorem test_unbind :
    let t := after .unbind (asking [4] shelf)
    (t.ru.manager, t.nu.unsent.map (·.kind), t.nu.inFlight, t.nu.resendTimer) = (none, [.link, .stale], [], none) := by decide +kernel

/-- R178, R92, R134: one RESTARTED note with value 2; FAILSAFE at 700; the channel sends it. -/
theorem test_restart :
    let t := after .restart (asking [5] shelf)
    (t.nu.unsent.map (fun n => (n.kind, n.value)), (t.reg 4).output, (t.chan 3).inFlight, (t.point 3).map (·.runtime.band), t.ru.manager)
      = ([(.restarted, 2)], some 700, some 700, some .unknown, some 1) := by decide +kernel

/-- R42, R91, R133, R160: the tables are empty, the binding and the hop budget stay. -/
theorem test_clearAll :
    let t := after .clearAll (asking [6] shelf)
    (t.point 3, t.reg 4 = Regulator.default, t.chan 3 = Channel.default, t.ru.manager, t.ci.hopBudget, t.nu.nextSequence)
      = (none, True, True, some 1, 32, 0) := by simp only [Prod.mk.injEq, eq_iff_iff]; decide +kernel

/-- R14. -/
theorem test_setChain :
    let t := after .setChain (asking [7, 0] shelf)
    ((after .setChain (asking [7, 255] shelf)).ci.hopBudget, answer t, t.ci.hopBudget) = (255, some (.range, []), 32) := by decide +kernel

/-- R150: an undefined code is BAD_REQUEST; R147: a request from node 0 is discarded. -/
theorem test_malformedRequest :
    (answer (after .malformedRequest (asking [99] shelf)),
      answer (after .malformedRequest { shelf with ru := { shelf.ru with fifo := [{ ask [99] with src := 0 }] } })) = (some (.badRequest, []), none) := by
  decide +kernel

/-- Section 9.2, the worked example in small: a merge raises BAND 30 to WARN. -/
theorem test_merge :
    let n : Note := { kind := .band, subject := some 30, value := 1, severity := .info, timestamp := 0 }
    let t := raise .band (some 30) 2 .warn { shelf with nu := { shelf.nu with unsent := [n] } }
    t.nu.unsent.map (fun n => (n.kind, n.value, n.severity)) = [(.band, 2, .warn)] := by decide +kernel

/-- Section 9.5, 10 500: ACK_NOTES of the one note in flight; the timer stops. -/
theorem test_ackNotes :
    let t := after .ackNotes (asking [64, 1, 243] shelf)
    (answer t, t.nu.inFlight, t.nu.resendTimer, answer (after .ackNotes (asking [64, 1, 244] shelf))) = (some (.ok, [1, 0]), [], none, some (.range, [])) := by
  decide +kernel

/-- Section 9.5, 11 500: the note in flight is due, the timer stopped. -/
theorem test_resendTimer :
    let t := after .resendTimerExpiry shelf
    (t.nu.due, t.nu.resendTimer) = ([499], none) := by decide +kernel

/-- R179: SWEEP 10 to 45, STATS and REBASE, is deferred; a second one is BUSY. -/
theorem test_sweep :
    let t := after .sweep (asking [65, 0, 10, 0, 45, 3] { shelf with sweep := none })
    (t.sweep.map (fun d => (d.next, d.last, d.stepTimer)), answer t, answer (after .sweep (asking [65, 0, 10, 0, 45, 3] shelf)))
      = (some (10, 45, some 5001), none, some (.busy, [])) := by decide +kernel

/-- Section 10.1, 50 001: the first expiry visits 10 to 25 and rebases point 12. -/
theorem test_sweepStep :
    let d := { halfSweep with first := 10, last := 45, next := 10, visited := 0, stepTimer := some 50001 }
    let t := after .sweepStepExpiry ((at_ 50001 { read5300 with sweep := some d }))
    (t.sweep.map (fun d => (d.next, d.visited)), (t.point 12).map (fun p => (p.runtime.band, p.runtime.count, p.staleTimer)))
      = (some (26, 1), some (.unknown, 0, some 52001)) := by decide +kernel

/-- Section 10.2: counter 0 overflows at CRC_ERROR, notes and freezes; counter 1 counted the frame. -/
theorem test_counters :
    let t := after .writeCounters (asking ([66, 2, 3, 127, 255, 255, 255, 1, 0, 0, 0, 3, 232, 15, 0, 0, 0, 0, 7, 0, 0, 0, 0, 0, 0]) shelf)
    let u := after .frameEnd t
    answer t = some (.ok, []) ∧ u.counters.counter.toList.map (·.value) = [2147483648, 1001, 7, 0] ∧ u.counters.frozen = true
      ∧ u.nu.unsent.getLast?.map (fun n => (n.kind, n.subject, n.value)) = some (.counter, some 0, 2) := by decide +kernel

/-- R190, section 11.7: counter 0 FRAMES_IN with 1000. -/
theorem test_readCounters :
    (answer (after .readCounters (asking [67] shelf))).map (fun a => a.2.take 6) = some [1, 0, 0, 0, 3, 232] := by decide +kernel

/-! ## Witnesses: the hypotheses of each statement are met together -/

/-- What a state needs for request 7 of node 1 to be new and authorised: no other manager, and no entry of that pair. -/
abbrev Served (s : State) : Prop :=
  (s.ru.manager = none ∨ s.ru.manager = some 1) ∧ ∀ e ∈ s.ru.recent, e.ref ≠ { src := 1, seq := 7 }

theorem ready_asking {p : List Nat} {s : State} (h : Served s) : Ready (ask p) [] (asking p s) where
  fifo := rfl
  slot := rfl
  ready := rfl
  idle := rfl
  src := ⟨(by decide : 1 ≤ (1 : Byte).toNat), (by decide : (1 : Byte).toNat ≤ 126)⟩
  unseen := h.2
  authority := h.1

/-- The request is ready and carries its code at its length. -/
def Asked (p : List Nat) (code : Byte) (length : Nat) (s : State) : Prop :=
  Ready (ask p) [] (asking p s) ∧ Carries (ask p) code length

theorem asked {p : List Nat} {code : Byte} {length : Nat} {s : State} (h : Served s)
    (hc : (bytes p).head? = some code ∧ (bytes p).length = length) : Asked p code length s := ⟨ready_asking h, hc⟩

theorem shelf_only {i : Fin 256} {p : Point} (h : shelf.point i = some p) : i = 3 ∧ p = fanPoint := by
  rw [shelf_point] at h
  split at h
  · exact ⟨‹_›, (Option.some.inj h).symm⟩
  · cases h

/-- The shelf with no sweep and an empty Recent Request List. -/
def still : State := { shelf with sweep := none, ru := { shelf.ru with recent := [] } }

/-- A list with three PENDING entries. -/
def crowded (s : State) : State :=
  { s with ru := { s.ru with recent := [1, 2, 3].map (fun n => { ref := { src := 2, seq := n }, status := .pending }) } }

/-- The shelf with a READ_STATUS in execution that has read the Override Monitor's group. -/
def reading : State :=
  { shelf with ru := { shelf.ru with
    execution := some { request := ask [2], read := { nothingRead 5000 with override := some (overrideGroup shelf) } } } }

theorem reading_requests : RequestLaw reading where
  fifo := shelf_requests.fifo
  slot := shelf_requests.slot
  recent := shelf_requests.recent
  pairs := shelf_requests.pairs
  pending := shelf_requests.pending
  replies := shelf_requests.replies
  owners := shelf_requests.owners
  owned := shelf_requests.owned
  nodes := shelf_requests.nodes
  manager := shelf_requests.manager
  executing := by intro x h; cases h; decide

/-! ### The machine as a whole -/

theorem witness_TimebaseAdvances : (0 ≤ 60000 ∧ 60000 ≤ 60000) ∧ 0 < 2147483648 ∧ 2147483647 < 2147483648 := by decide

theorem witness_StepTakesTheFrontCommand : shelf.pending = .resendTimerExpiry :: [] ∧ State.reset.pending = [] := ⟨rfl, rfl⟩

theorem shelf_steps : step shelf = .next (after .resendTimerExpiry (shelf.withPending [])) := rfl

theorem witness_NoteLawIsKept : NoteLaw shelf ∧ ∃ t, step shelf = .next t := ⟨shelf_notes, _, shelf_steps⟩
theorem witness_OverrideLawIsKept : OverrideLaw shelf ∧ ∃ t, step shelf = .next t := ⟨shelf_override, _, shelf_steps⟩
theorem witness_PointLawIsKept : PointLaw shelf ∧ ∃ t, step shelf = .next t := ⟨shelf_points, _, shelf_steps⟩
theorem witness_RegulatorLawIsKept : RegulatorLaw shelf ∧ ∃ t, step shelf = .next t := ⟨shelf_regulators, _, shelf_steps⟩
theorem witness_ChannelLawIsKept : ChannelLaw shelf ∧ ∃ t, step shelf = .next t := ⟨shelf_channels, _, shelf_steps⟩
theorem witness_LevelLawIsKept : RegulatorLaw shelf ∧ LevelLaw shelf ∧ ∃ t, step shelf = .next t :=
  ⟨shelf_regulators, shelf_levels, _, shelf_steps⟩
theorem witness_SupervisorLawIsKept : RegulatorLaw shelf ∧ SupervisorLaw shelf ∧ ∃ t, step shelf = .next t :=
  ⟨shelf_regulators, shelf_supervisors, _, shelf_steps⟩
theorem witness_RequestLawIsKept : (RegulatorLaw shelf ∧ RequestLaw shelf ∧ ∃ t, step shelf = .next t) ∧
    RegulatorLaw reading ∧ RequestLaw reading ∧ ∃ t, step reading = .next t :=
  ⟨⟨shelf_regulators, shelf_requests, _, shelf_steps⟩,
    ⟨shelf_regulators.records, shelf_regulators.inputs, shelf_regulators.feedback, shelf_regulators.channels, shelf_regulators.bound⟩,
    reading_requests, _, (rfl : step reading = .next (after .resendTimerExpiry (reading.withPending [])))⟩
theorem witness_SweepLawIsKept : SweepLaw shelf ∧ shelf.sweep = some halfSweep ∧ ∃ t, step shelf = .next t :=
  ⟨shelf_sweep, rfl, _, shelf_steps⟩
theorem witness_ChainLawIsKept : ChainLaw shelf ∧ ∃ t, step shelf = .next t := ⟨shelf_chain, _, shelf_steps⟩

/-- A part strapped to 127 with a frame in transit and one on the wire. -/
def bridge : State :=
  { State.cold 127 with
    timebase := 9
    ci := { (State.cold 127).ci with link := .up, transit := [frame 1 1 [2, 1, 156]], port := .busy .transit [1, 2] }
    pending := [.egressDone] }

theorem witness_TransparentLawIsKept : TransparentLaw bridge ∧ bridge.transparent = true ∧ ∃ t, step bridge = .next t :=
  ⟨fun _ => ⟨rfl, rfl, .inr ⟨_, rfl⟩⟩, by decide, _, rfl⟩

theorem witness_EachSettingHasItsOwnCommands :
    (∃ t, exec .frameEnd shelf = .next t) ∧ (∀ a, Instr.frameEnd ≠ .coldReset a) ∧
      ∀ c ∈ [Instr.timebaseAdvance, .bind, .unbind, .setOverride, .setChain, .writePoint, .deletePoint, .clearAll, .writeRegulator, .writeCurve,
        .writeActuator, .writeCounters], Instr.frameEnd ≠ c :=
  ⟨⟨_, rfl⟩, (by intro a h; cases h), by decide⟩

/-! ### Chain Interface -/

/-- The shelf with these bytes in reception. -/
def receiving (bs : Option (List Byte)) : State := shelf.withCi { shelf.ci with rx := { collecting := bs, awaiting := none } }

theorem witness_SymbolIsReceived :
    (receiving none).ci.rx.collecting = none ∧ (receiving (some [])).ci.rx.collecting = some [] ∧ shelf.ci.rx.collecting = some (9 :: []) ∧
      (receiving (some (List.replicate 67 0))).ci.rx.collecting = some (List.replicate 67 0) ∧ (List.replicate 67 (0 : Byte)).length < 68 ∧
      (receiving (some (List.replicate 68 0))).ci.rx.collecting = some (List.replicate 68 0) ∧ 68 ≤ (List.replicate 68 (0 : Byte)).length := by
  refine ⟨rfl, rfl, rfl, rfl, ?_, rfl, ?_⟩ <;> decide

theorem witness_FormedFramesPassAndReadBack : (frame 1 1 (List.replicate 60 255)).payload.length ≤ 60 := by decide

/-- The shelf with these bytes awaiting the checks. -/
def ended (ending : FrameEnding) (bs : List Byte) : State :=
  shelf.withCi { shelf.ci with rx := { collecting := none, awaiting := some { bytes := bs, ending := ending, endedAt := 5000 } } }

/-- One awaiting frame for each way to fail: over-length, 7 bytes, a len of 61, a len that is not that of the bytes, a wrong CRC. -/
theorem witness_FailingFrameIsDiscarded :
    ((ended .overLength (List.replicate 69 0)).ci.rx.awaiting = some { bytes := List.replicate 69 0, ending := .overLength, endedAt := 5000 }) ∧
    (bytes [1, 2, 3, 4, 5, 0, 0]).length < 8 ∧
    60 < (byteAt (bytes [1, 2, 3, 4, 5, 61, 0, 0]) 5).toNat ∧
    (bytes [1, 2, 3, 4, 5, 1, 0, 0]).length ≠ 8 + (byteAt (bytes [1, 2, 3, 4, 5, 1, 0, 0]) 5).toNat ∧
    (let bs := bytes [1, 2, 3, 4, 5, 0, 0, 0]; crc (bs.take (bs.length - 2)) ≠ halfAt bs (bs.length - 2)) ∧
    (ended .delimited (bytes [1, 2, 3])).ci.rx.awaiting = some { bytes := bytes [1, 2, 3], ending := .delimited, endedAt := 5000 } ∧
    (∀ e bs, (ended e bs).ci.sample = none) := by
  refine ⟨rfl, ?_, ?_, ?_, ?_, rfl, fun _ _ => rfl⟩ <;> decide +kernel

theorem arrived_here {f : Frame} {e : Time} {s : State} (h : f.payload.length ≤ 60) (he : s.timebase = e) (hs : s.ci.sample = none) :
    Arrived f e (arrived f s) := ⟨by rw [← he]; rfl, hs, h⟩

theorem arrived_other {f : Frame} {e : Time} {s : State} (h : f.payload.length ≤ 60) (he : s.timebase = e) (hs : s.ci.sample = none)
    (hn : s.transparent = false) (ho : f.src ≠ s.ownAddress) : ArrivedHere f e (arrived f s) := ⟨arrived_here h he hs, hn, ho⟩

/-- The shelf with this many frames in transit. -/
def queued (n : Nat) (s : State) : State := s.withCi { s.ci with transit := List.replicate n (frame 1 1 []) }

theorem witness_FrameIsForwarded :
    let foreign (hops : Byte) : Frame := { frame 20 9 [] with hops := hops }
    let set : Frame := frame 33 2 (List.replicate 60 0)
    (∀ hops, ArrivedHere (foreign hops) 5000 (arrived (foreign hops) (queued 7 shelf))) ∧ ArrivedHere set 5000 (arrived set (queued 8 shelf)) ∧
      (foreign 1).type ≠ 1 ∧ (foreign 1).type ≠ 3 ∧ (foreign 1).type ≠ 4 ∧ (foreign 1).type ≠ 5 ∧ (foreign 1).type ≠ 6 ∧
      set.type ≠ 1 ∧ set.dest ≠ shelf.ownAddress ∧ (foreign 1).hops.toNat ≤ 1 ∧ 2 ≤ (foreign 2).hops.toNat ∧
      (arrived (foreign 2) (queued 7 shelf)).ci.transit.length < 8 ∧ 2 ≤ set.hops.toNat ∧ 8 ≤ (arrived set (queued 8 shelf)).ci.transit.length := by
  refine ⟨fun hops => arrived_other ?_ rfl rfl rfl ?_, arrived_other ?_ rfl rfl rfl ?_, ?_⟩
  · exact Nat.zero_le _
  · show (9 : Byte) ≠ _; decide
  · decide
  · decide
  · repeat' apply And.intro
    all_goals decide

theorem witness_TransparentPartForwardsEveryFrame :
    let f (hops : Byte) : Frame := { frame 127 4 [1] with hops := hops }
    (∀ hops n, Arrived (f hops) 9 (arrived (f hops) (queued n bridge))) ∧ bridge.transparent = true ∧
      (f 1).hops.toNat ≤ 1 ∧ 2 ≤ (f 2).hops.toNat ∧ (queued 7 bridge).ci.transit.length < 8 ∧ 8 ≤ (queued 8 bridge).ci.transit.length := by
  refine ⟨fun hops n => ⟨rfl, rfl, ?_⟩, ?_⟩
  · show (bytes [1]).length ≤ 60; decide
  · repeat' apply And.intro
    all_goals decide

/-- The shelf with this many requests in the FIFO. -/
def waitingRequests (n : Nat) : State := { shelf with ru := { shelf.ru with fifo := List.replicate n (ask [1]) } }

theorem witness_FrameIsConsumed :
    let own : Frame := { frame 1 5 [] with src := 20 }
    let to20 (type : Nat) : Frame := frame 20 type [1]
    Arrived own 5000 (arrived own shelf) ∧ shelf.transparent = false ∧ own.src = shelf.ownAddress ∧
      ArrivedHere (to20 5) 5000 (arrived (to20 5) shelf) ∧ ArrivedHere (to20 6) 5000 (arrived (to20 6) shelf) ∧
      (∀ n, ArrivedHere (to20 4) 5000 (arrived (to20 4) (waitingRequests n))) ∧ (to20 4).dest = shelf.ownAddress ∧
      (to20 5).type = 5 ∧ (to20 6).type = 6 ∧ (to20 4).type = 4 ∧ (waitingRequests 3).ru.fifo.length < 4 ∧ 4 ≤ (waitingRequests 4).ru.fifo.length := by
  refine ⟨arrived_here ?_ rfl rfl, rfl, ?_, arrived_other ?_ rfl rfl rfl ?_, arrived_other ?_ rfl rfl rfl ?_, fun n => arrived_other ?_ rfl rfl rfl ?_, ?_⟩
  all_goals first
    | decide
    | exact (by decide : (9 : Byte) ≠ 20)

theorem witness_ValidFrameRaisesTheLink :
    let own : Frame := { frame 1 5 [] with src := 20 }
    let with_ (link : LinkState) (d : Option Time) (s : State) : State := s.withCi { s.ci with link := link, downStart := d }
    (∀ link d, Arrived own 5000 (arrived own (with_ link d shelf)) ∧ (with_ link d shelf).ci.link = link ∧
      (with_ link d shelf).ci.downStart = d) ∧
      (∀ link d, Arrived own 9 (arrived own (with_ link d bridge))) ∧ bridge.transparent = true ∧
      shelf.transparent = false ∧ own.src = shelf.ownAddress ∧
      (5000 - (5000 - 65535) : Time).toNat ≤ 65535 ∧ ¬ (5000 - (5000 - 65536) : Time).toNat ≤ 65535 := by
  refine ⟨fun link d => ⟨arrived_here ?_ rfl rfl, rfl, rfl⟩, fun link d => arrived_here ?_ rfl rfl, ?_⟩
  · decide
  · decide
  · repeat' apply And.intro
    all_goals decide

/-- The shelf with a SAMPLE of three readings in work, one of which was taken and stays, to node `dest`. -/
def working (dest : Nat) : State :=
  shelf.withCi { shelf.ci with
    rx := { collecting := none, awaiting := none }
    sample := some
      { frame := frame dest 1 [18, 1, 156, 18, 1, 156, 18, 1, 156], kept := readingsOf (bytes [18, 1, 156])
        left := readingsOf (bytes [18, 1, 156, 18, 1, 156]) } }

/-- The shelf at 5015, when its link-down timer is due. -/
def silent (link : LinkState) (rx : Receiver) : State := at_ 5015 (shelf.withCi { shelf.ci with link := link, rx := rx })

theorem witness_SilentLineTakesTheLinkDown :
    (∀ link rx, (silent link rx).ci.linkTimer = some 5015 ∧ timerDue (silent link rx).timebase (some 5015) = true) ∧
      ((silent .up shelf.ci.rx).ci.rx.awaiting ≠ none ∧ (silent .up shelf.ci.rx).ci.sample = none) ∧
      ((working 1).ci.sample ≠ none ∧ (working 1).ci.rx.awaiting = none) ∧
      (∀ link, link = LinkState.up ∨ link = .down → ∀ c, c = none ∨ c = some [] ∨ c = some (9 :: []) →
        (silent link { collecting := c, awaiting := none }).ci.link = link ∧
        (silent link { collecting := c, awaiting := none }).ci.rx.awaiting = none ∧
        (silent link { collecting := c, awaiting := none }).ci.rx.collecting = c) := by
  refine ⟨fun link rx => ⟨rfl, ?_⟩, by decide, by decide, fun link _ c _ => ⟨rfl, rfl, rfl⟩⟩
  show timerDue 5015 _ = true
  decide

/-- A channel whose SET waits for its grant. -/
def waitingFan : Channel := { fanChannel with state := .sending, inFlight := some 648, acked := none }

/-- The pointer is 2: the first channel looked at is 3, the last is 2 itself. -/
theorem witness_RoundRobinFindsTheNextWaitingChannel :
    (let s := shelf.setChan 3 waitingFan; s.ci.roundRobin + 1 + 0 = 3 ∧ (s.chan 3).waiting = true) ∧
      (let s := shelf.setChan 2 waitingFan
       s.ci.roundRobin + 1 + 15 = 2 ∧ (s.chan 2).waiting = true ∧ ∀ j : Fin 16, j < 15 → (s.chan (s.ci.roundRobin + 1 + j)).waiting = false) ∧
      ∀ c, (shelf.chan c).waiting = false := by
  refine ⟨?_, ?_, ?_⟩ <;> decide +kernel

/-- The shelf with nothing in transit. -/
def noTransit : State := queued 0 shelf

theorem witness_GrantTakesOneFrame :
    let r : Reply := { src := 1, seq := 6, code := 3, status := .ok, data := [1] }
    let replying := { noTransit with ru := { noTransit.ru with slot := some r } }
    let sending := noTransit.setChan 3 waitingFan
    let full := { shelf.nu with inFlight := List.replicate 3 { note := { kind := .link, subject := none, value := 3, severity := .warn, timestamp := 100 }, sequence := 499, lost := 0 } }
    (bridge.withCi { bridge.ci with port := .free }).ci.port = .free ∧ originatedWaiting bridge = false ∧
      shelf.ci.port = .free ∧ (shelf.withCi { shelf.ci with lastClass := some .originated }).ci.lastClass ≠ some .transit ∧
      shelf.ci.transit = frame 1 1 [2, 1, 156] :: [] ∧ originatedWaiting shelf = true ∧ shelf.ci.lastClass = some .transit ∧
      shelf.transparent = false ∧ noTransit.ci.transit = [] ∧ noTransit.ci.port = .free ∧
      replying.ru.slot = some r ∧
      sending.ru.slot = none ∧ nextChannel sending = some 3 ∧ (sending.chan 3).inFlight = some 648 ∧
      (∀ c, (noTransit.chan c).waiting = false) ∧ noTransit.ru.slot = none ∧ noTransit.ru.manager = some 1 ∧ (noTransit.withNu full).nu.inFlight.length < 4 ∧
      (noTransit.withNu full).nu.due = [] ∧ (noTransit.withNu full).nu.unsent ≠ [] ∧
      (let resending := noTransit.withNu { noTransit.nu with due := [499] }
       resending.nu.due.head? = some 499 ∧ (resending.nu.inFlight.find? (fun x => x.sequence = 499)).isSome) := by
  repeat' apply And.intro
  all_goals first | rfl | decide +kernel

/-- The shelf with a frame of a producer on the wire. -/
def onWire (p : Producer) (s : State) : State := s.withCi { s.ci with port := .busy p [1, 2] }

theorem witness_TransmissionEnds :
    (∀ p s, (onWire p s).ci.port = .busy p [1, 2]) ∧
      (let s := onWire (.channel 3) (shelf.setChan 3 { waitingFan with transmitting := true })
       (s.chan 3).state = .sending ∧ (s.chan 3).transmitting = true) ∧
      ((onWire (.channel 3) shelf).chan 3).transmitting = false ∧
      (shelf.withNu { shelf.nu with resendTimer := none }).nu.resendTimer = none ∧ shelf.nu.inFlight ≠ [] ∧
      shelf.nu.resendTimer.isSome ∧ State.reset.nu.inFlight = [] := by
  refine ⟨fun _ _ => rfl, ?_, ?_, rfl, ?_, rfl, rfl⟩ <;> decide +kernel

theorem witness_ChainAndHoldSettings :
    (∀ v ∈ [[7, 1], [7, 255], [7, 0], [8, 0], [8, 60], [8, 61], [8, 255]], Ready (ask v) [] (asking v shelf)) ∧
      (ask [7, 1]).payload = [7, 1] ∧ (ask [7, 255]).payload = [7, 255] ∧ (ask [7, 0]).payload = [7, 0] ∧ (ask [8, 60]).payload = [8, 60] ∧
      (ask [8, 61]).payload = [8, 61] :=
  ⟨fun _ _ => ready_asking (by decide), by decide, by decide, by decide, by decide, by decide⟩

/-! ### Request Unit -/

theorem witness_NothingHappensOutOfTurn :
    TakesRequests .bind ∧ .bind ≠ Instr.readStatus ∧ shelf.ru.execution = none ∧ shelf.ru.fifo = [] ∧ reading.ru.execution ≠ none ∧ (asking [3] shelf).ru.fifo = ask [3] :: [] ∧ ¬ Takes .unbind (ask [3]) ∧
      (receiving none).ci.rx.awaiting = none ∧ (receiving none).ci.sample = none ∧ (onWire .note shelf).ci.port ≠ .free ∧ classGranted State.reset = none ∧ shelf.ci.port = .free ∧
      timerDue shelf.timebase shelf.ci.linkTimer = false ∧ timerDue shelf.timebase shelf.om.holdTimer = false ∧
      timerDue State.reset.timebase State.reset.nu.resendTimer = false ∧ timerDue shelf.timebase fanPoint.staleTimer = false ∧
      timerDue shelf.timebase (shelf.reg 4).periodTimer = false ∧ timerDue shelf.timebase (shelf.sup 4).window = false ∧
      timerDue shelf.timebase (shelf.chan 3).ackTimer = false ∧ timerDue shelf.timebase (shelf.chan 3).probeTimer = false ∧
      timerDue shelf.timebase halfSweep.stepTimer = false := by
  refine ⟨.inl ⟨.bind, rfl⟩, by decide, rfl, rfl, by decide, rfl, ?_, rfl, rfl, ?_, ?_, rfl, ?_, ?_, ?_, ?_, ?_, ?_, ?_, ?_, ?_⟩
  · rintro (⟨c, h, h'⟩ | ⟨h, _⟩)
    · cases c <;> first | exact absurd h' (by decide) | cases h
    · cases h
  all_goals decide +kernel

theorem witness_BadAndUnauthorisedRequests :
    let stranger := { shelf with ru := { shelf.ru with manager := some 2 } }
    (∀ p, NewRequest (ask p) [] (asking p shelf)) ∧ (∀ p, NewRequest (ask p) [] (asking p stranger)) ∧
      (ask []).payload = [] ∧ (ask [0]).payload.head? = some 0 ∧ (∀ c : RequestCode, c.byte ≠ 0) ∧
      (ask [3, 0]).payload.head? = some RequestCode.bind.byte ∧ ¬ Admitted .bind (ask [3, 0]).payload.length ∧
      (ask [5]).payload.head? = some RequestCode.restart.byte ∧ Admitted .restart (ask [5]).payload.length ∧
      (asking [5] stranger).ru.manager = some 2 ∧ (ask [5]).src ≠ 2 := by
  have new (s : State) (h : ∀ e ∈ s.ru.recent, e.ref ≠ { src := 1, seq := 7 }) (p : List Nat) : NewRequest (ask p) [] (asking p s) :=
    ⟨⟨rfl, rfl, rfl, rfl⟩, ⟨(by decide : 1 ≤ (1 : Byte).toNat), (by decide : (1 : Byte).toNat ≤ 126)⟩, h⟩
  refine ⟨new _ (by decide), new _ (by decide), rfl, rfl, ?_, ?_, (by decide : ¬ 2 = 1), ?_, rfl, rfl, ?_⟩
  · intro c; cases c <;> decide
  all_goals decide

theorem witness_DiscardedAndResentRequests :
    let from_ (src seq : Byte) : Request := { src := src, seq := seq, payload := [3] }
    let s (src seq : Byte) : State := { shelf with ru := { shelf.ru with fifo := [from_ src seq] } }
    (∀ src seq, AtHead (from_ src seq) [] (s src seq)) ∧ (∀ src seq, Takes .bind (from_ src seq)) ∧
      (0 : Byte).toNat = 0 ∧ 127 ≤ (127 : Byte).toNat ∧ (shelf.ru.recent.map (·.ref)).Nodup ∧
      (∃ e ∈ shelf.ru.recent, e.ref = { src := 1, seq := 5 } ∧ e.status = .pending) ∧
      (∃ e ∈ shelf.ru.recent, e.ref = { src := 1, seq := 6 } ∧ ∃ r, e.status = .done r) := by
  refine ⟨fun _ _ => ⟨rfl, rfl, rfl, rfl⟩, fun _ _ => .inl ⟨.bind, rfl, rfl⟩, rfl, by decide, by decide, ?_, ?_⟩
  · exact ⟨_, List.mem_cons_self, rfl, rfl⟩
  · exact ⟨_, List.mem_cons_of_mem _ List.mem_cons_self, rfl, _, rfl⟩

theorem witness_IndicesOutOfRangeAreRefused :
    Asked [34, 32, 0] 34 3 shelf ∧ Asked [35, 32] 35 2 shelf ∧ Asked [36, 32] 36 2 shelf ∧ Asked [37, 32, 0, 0] 37 4 shelf ∧
      Asked [38, 32, 0, 0] 38 4 shelf ∧ Asked [39, 255] 39 2 shelf ∧ Asked ([32, 32] ++ List.replicate 17 0) 32 19 shelf ∧
      Asked ([32, 32] ++ List.replicate 58 0) 32 60 shelf ∧ Asked [33, 32] 33 (2 + 4 * 0) shelf ∧
      Asked ([33, 32] ++ List.replicate 56 0) 33 (2 + 4 * 14) shelf ∧ Asked [48, 16, 0, 0, 0, 0] 48 6 shelf ∧ Asked [49, 16] 49 2 shelf ∧
      Asked [50, 16] 50 2 shelf ∧ 32 ≤ numAt (ask [35, 32]).payload 1 ∧ 16 ≤ numAt (ask [50, 16]).payload 1 := by
  refine ⟨?_, ?_, ?_, ?_, ?_, ?_, ?_, ?_, ?_, ?_, ?_, ?_, ?_, ?_, ?_⟩
  all_goals first | exact asked (by decide) (by decide) | decide

/-! ### Point Engine and Override Monitor -/

/-- The reading 412 of point 3 is removed from its frame (a difference of 2 from 410, the second reading since); a FAILED one stays. A
choice of one reading stops before the last of two, one of none before the first, and one of two does not stop. -/
theorem witness_SampleFrames :
    let f (dest : Nat) (p : List Nat) (hops : Byte) : Frame := { frame dest 1 p with hops := hops }
    (∀ p ∈ [[], [2, 1, 156], [18, 1, 156], [2, 1, 156, 18, 1, 156]], ∀ dest hops n,
        ArrivedHere (f dest p hops) 5000 (arrived (f dest p hops) (queued n shelf))) ∧
      (f 20 [] 6).dest = shelf.ownAddress ∧ (f 1 [] 6).dest ≠ shelf.ownAddress ∧ (f 1 [] 6).type = 1 ∧
      ([2, 1, 156] : List Nat).length ∈ [3, 6, 9, 12, 15, 18, 21, 24] ∧ ([] : List Nat).length ∉ [3, 6, 9, 12, 15, 18, 21, 24] ∧
      (let r := readingsOf (bytes [2, 1, 156, 18, 1, 156])
       (1 : Fin 8).val < r.length ∧ (0 : Fin 8).val < r.length ∧ r.length ≤ (2 : Fin 8).val) ∧
      (Undivided shelf ∧ Undivided (shelf.withTurns [.readFirst]) ∧ (shelf.withTurns [.readings 1]).turns = .readings 1 :: []) ∧
      (takeReadings 9 (readingsOf (bytes [2, 1, 156])) (received 5000 (arrived (f 1 [2, 1, 156] 6) shelf))).2 = [] ∧
      (takeReadings 9 (readingsOf (bytes [18, 1, 156])) (received 5000 (arrived (f 1 [18, 1, 156] 6) shelf))).2 ≠ [] ∧
      (∃ w, (working 1).ci.sample = some w ∧ (1 : Fin 8).val < w.left.length ∧ w.left.length ≤ (2 : Fin 8).val) := by
  refine ⟨fun p hp dest hops n => arrived_other ?_ rfl rfl rfl (by decide : (9 : Byte) ≠ 20), ?_, ?_, ?_, ?_, ?_, ?_, ⟨?_, ?_, rfl⟩, ?_, ?_, _, rfl, ?_⟩
  · have : ∀ p ∈ ([[], [2, 1, 156], [18, 1, 156], [2, 1, 156, 18, 1, 156]] : List (List Nat)), (bytes p).length ≤ 60 := by decide
    exact this p hp
  case refine_8 => intro n; decide +revert
  case refine_9 => intro n; decide +revert
  all_goals decide +kernel

theorem witness_ReadingsThatAreNotAccepted :
    (let r : Reading := { head := 5, rawHigh := 0, rawLow := 0 }
     ∀ i p, shelf.point i = some p → p.config.key ≠ { node := 9, channel := r.channel }) ∧
      (let r : Reading := { head := 18, rawHigh := 0, rawLow := 0 }
       shelf.point 3 = some fanPoint ∧ fanPoint.config.key = { node := 9, channel := r.channel } ∧ r.head.getLsbD 4 = true) := by
  refine ⟨?_, ?_, ?_, ?_⟩
  · intro r i p h
    obtain ⟨_, rfl⟩ := shelf_only h
    decide
  · rw [shelf_point]; rfl
  · decide
  · decide

theorem witness_AcceptedReading :
    let r : Reading := { head := 2, rawHigh := 1, rawLow := 156 }
    PointLaw shelf ∧ shelf.point 3 = some fanPoint ∧ fanPoint.config.key = { node := 9, channel := r.channel } ∧ r.head.getLsbD 4 = false :=
  ⟨shelf_points, by rw [shelf_point]; rfl, by decide, by decide⟩

/-- The thresholds of section 3.1, at the boundary value of each band. -/
theorem witness_BandOfAReading :
    let t : Thresholds := { lowCrit := some 50, lowWarn := some 100, highWarn := some 400, highCrit := some 500 }
    (∃ h, t.highCrit = some h ∧ h ≤ 500) ∧ (¬ (∃ h, t.highCrit = some h ∧ h ≤ 499) ∧ ∃ h, t.highWarn = some h ∧ h ≤ 499) ∧
      (¬ (∃ h, t.highWarn = some h ∧ h ≤ 50) ∧ ∃ h, t.lowCrit = some h ∧ 50 ≤ h) ∧
      (¬ (∃ h, t.lowCrit = some h ∧ 51 ≤ h) ∧ ∃ h, t.lowWarn = some h ∧ 51 ≤ h) ∧
      (¬ (∃ h, t.highWarn = some h ∧ h ≤ 101) ∧ ¬ ∃ h, t.lowWarn = some h ∧ 101 ≤ h) := by
  simp

theorem witness_OverrideOpens :
    RegulatorLaw shelf ∧ shelf.om.critical = [] ∧ shelf.om.phase = .clear ∧
      (shelf.reg 4).state = .auto ∧ (shelf.reg 4).config.participate = true ∧ (shelf.reg 0).state ≠ .auto ∧ (shelf.reg 0).state ≠ .failsafe ∧
      (∀ r, (shelf.reg r).state = .auto ∨ (shelf.reg r).state = .failsafe → (shelf.reg r).config.actuator ≠ 7) :=
  ⟨shelf_regulators, rfl, rfl, by decide +kernel, by decide +kernel, by decide +kernel, by decide +kernel, by decide +kernel⟩

/-- The shelf with an override that began at 100. -/
def alarmed (critical : List (Fin 256)) (phase : Phase) (holdTime : Nat) : State :=
  shelf.withOm
    { critical := critical, phase := phase, holdTimer := if phase = .holding then some 5000 else none, holdTime := holdTime, startTime := some 100 }

theorem witness_OverrideChangesAndEnds :
    (3 ∈ (alarmed [3] .active 10).om.critical) ∧ (9 ∉ (alarmed [3] .active 10).om.critical ∧ (alarmed [3] .active 10).om.critical ≠ []) ∧
      ((alarmed [] .holding 10).om.critical = [] ∧ (alarmed [] .holding 10).om.phase = .holding) ∧
      (∀ c ph h, (alarmed c ph h).om.startTime = some 100) ∧
      (Band.normal ≠ .critHigh ∧ Band.normal ≠ .critLow) ∧ (∃ q ∈ (alarmed [3, 9] .active 10).om.critical, q ≠ 3) ∧
      ((alarmed [3] .active 60).om.critical = [3] ∧ 0 < (alarmed [3] .active 1).om.holdTime ∧ (alarmed [3] .active 0).om.holdTime = 0) ∧
      timerDue (alarmed [] .holding 10).timebase (alarmed [] .holding 10).om.holdTimer = true ∧
      ((shelf.setReg 4 { fanRegulator with state := .override }).reg 4).state = .override ∧ (shelf.reg 4).state ≠ .override := by
  refine ⟨?_, ?_, ?_, fun _ _ _ => rfl, ?_⟩
  · decide
  · decide
  · decide
  · repeat' apply And.intro
    all_goals decide +kernel

/-- The law of the Regulator Table does not rest on runtime of points and channels. -/
theorem regulators_of {s : State} (hr : ∀ r, s.reg r = shelf.reg r)
    (hp : ∀ i, (s.point i).map (·.config) = (shelf.point i).map (·.config)) (hc : ∀ c, (s.chan c).config = (shelf.chan c).config) :
    RegulatorLaw s where
  records r := by rw [hr]; exact shelf_regulators.records r
  inputs r i h := by
    rw [hr] at h
    have := shelf_regulators.inputs r i h
    have e := congrArg Option.isSome (hp i)
    simp only [Option.isSome_map] at e
    rw [e]; exact this
  feedback r i h := by
    rw [hr] at h
    obtain ⟨p, h1, h2⟩ := shelf_regulators.feedback r i h
    have e := hp i
    rw [h1] at e
    obtain ⟨q, hq, hcfg⟩ := Option.map_eq_some_iff.mp e
    exact ⟨q, hq, by rw [hcfg]; exact h2⟩
  channels r q c h h' := by rw [hr] at h h'; exact shelf_regulators.channels r q c h h'
  bound r h := by
    rw [hr] at h ⊢
    have := shelf_regulators.bound r h
    unfold Channel.bound at this ⊢
    rw [hc]; exact this

/-- The shelf with point 3 STALE. -/
def stale3 : State := shelf.setPoint 3 (some fanPoint.wentStale)

/-- The shelf, point 3 STALE, with an acked level on channel 3 and a supervisor of regulator 4. -/
def watched (acked : Option Nat) (p : Supervisor) : State := (stale3.setChan 3 { fanChannel with acked := acked }).setSup 4 p

theorem watched_regulators (acked : Option Nat) (p : Supervisor) : RegulatorLaw (watched acked p) :=
  regulators_of (fun _ => rfl) (by
    show ∀ i, (stale3.point i).map (·.config) = (shelf.point i).map (·.config)
    decide +kernel) (by
    have h : (watched acked p).chans.map (·.config) = shelf.chans.map (·.config) := by
      simp only [watched, State.setSup, State.setChan, Vector.map_set]; decide +kernel
    intro c
    have e := congrArg (fun v => v[c]) h
    simpa [State.chan] using e)

theorem witness_StallSupervision :
    SupervisorLaw shelf ∧ Watches (shelf.reg 4) 3 ∧ ¬ Watches (shelf.reg 4) 9 ∧ (shelf.reg 4).config.stallFloor ≤ 600 ∧
      599 < (shelf.reg 4).config.stallFloor ∧
      (∀ a p, RegulatorLaw (watched a p) ∧ (watched a p).sup 4 = p ∧ ((watched a p).reg 4).config.actuator = 3 ∧
        ((watched a p).chan 3).acked = a ∧ ∃ q, (watched a p).point 3 = some q ∧ q.runtime.band = .stale) ∧
      Arming (some 1) ∧ ¬ Arming (some 0) ∧ ¬ Arming none ∧
      (∀ q, shelf.point 3 = some q → q.runtime.band ≠ .stale) ∧ (shelf.sup 4).window.isSome := by
  refine ⟨shelf_supervisors, ?_, ?_, ?_, ?_, fun a p => ⟨watched_regulators a p, ?_, ?_, ?_, ?_⟩, ⟨1, rfl, Nat.one_pos⟩, ?_, ?_, ?_, ?_⟩
  · unfold Watches; decide +kernel
  · unfold Watches; decide +kernel
  · decide +kernel
  · decide +kernel
  · simp [watched, State.sup, State.setSup]
  · show (shelf.reg 4).config.actuator = 3; decide +kernel
  · simp [watched, State.chan, State.setSup, State.setChan]
  · exact ⟨fanPoint.wentStale, by simp [watched, stale3, State.point, State.setSup, State.setChan, State.setPoint], rfl⟩
  · rintro ⟨l, h, h'⟩; cases h; exact absurd h' (Nat.lt_irrefl 0)
  · rintro ⟨l, h, _⟩; cases h
  · intro q h; obtain ⟨_, rfl⟩ := shelf_only h; decide
  · decide +kernel

theorem witness_StalenessAndWindowExpiries :
    (at_ 6800 shelf).point 3 = some fanPoint ∧ timerDue (at_ 6800 shelf).timebase fanPoint.staleTimer = true ∧
      Watches ((at_ 6800 shelf).reg 4) 3 ∧ Arming (shelf.chan (shelf.reg 4).config.actuator).acked ∧
      ((shelf.setSup 4 Supervisor.reset).sup 4) = { stalled := false, window := none } ∧ ¬ Watches (shelf.reg 0) 3 ∧
      timerDue (at_ 8000 shelf).timebase ((at_ 8000 shelf).sup 4).window = true ∧
      ((at_ 8000 shelf).chan ((at_ 8000 shelf).reg 4).config.actuator).acked = some 648 := by
  refine ⟨?_, by decide, ?_, ⟨648, ?_, by decide⟩, ?_, ?_, ?_, ?_⟩
  all_goals first | decide +kernel | (unfold Watches; decide +kernel)

/-- WRITE_POINT of record `i` with a key and a kind, no threshold, no max_age, PASS. -/
def writePoint (i node channel kind : Nat) : List Nat :=
  [16, i, node, channel, kind, 1, 0, 0, 0, 0, 0, 0, 0, 0, 0, 0, 0, 0, 0, 0, 0, 0, 0, 0, 0, 0, 0, 1]

def keyed (node : Byte) (channel : Fin 16) (kind : PointKind) : PointConfig where
  key := { node := node, channel := channel }
  kind := kind
  gain := 256
  offset := 0
  shift := 0
  thresholds := { lowCrit := none, lowWarn := none, highWarn := none, highCrit := none }
  hyst := 0
  maxAge := none
  escalate := false
  bandNotes := false
  forward := .pass
  deadband := 0
  refresh := 1

theorem witness_WritePoint :
    let w (p : List Nat) := Asked p 16 28 shelf
    let fed (i : Fin 256) := ∃ r, (shelf.reg r).config.inputs ≠ [] ∧ (shelf.reg r).config.feedback = some i
    let held (i : Fin 256) (k : Key) := ∃ j p, j ≠ i ∧ shelf.point j = some p ∧ p.config.key = k
    w (writePoint 255 127 0 0) ∧ pointConfig? (ask (writePoint 255 127 0 0)).payload = none ∧ numAt (ask (writePoint 255 127 0 0)).payload 1 = 255 ∧
      w (writePoint 9 9 2 0) ∧ pointConfig? (ask (writePoint 9 9 2 0)).payload = some (keyed 9 2 .temperature) ∧
      held 9 (keyed 9 2 .temperature).key ∧
      w (writePoint 3 9 3 0) ∧ pointConfig? (ask (writePoint 3 9 3 0)).payload = some (keyed 9 3 .temperature) ∧ fed 3 ∧
      ¬ held 3 (keyed 9 3 .temperature).key ∧
      w (writePoint 9 9 3 0) ∧ shelf.point 9 = none ∧ ¬ held 9 (keyed 9 3 .temperature).key ∧ ¬ fed 9 ∧
      w (writePoint 3 9 3 1) ∧ pointConfig? (ask (writePoint 3 9 3 1)).payload = some (keyed 9 3 .speed) ∧
      w (writePoint 3 9 2 1) ∧ pointConfig? (ask (writePoint 3 9 2 1)).payload = some (keyed 9 2 .speed) ∧
      ¬ held 3 (keyed 9 2 .speed).key ∧ shelf.point 3 = some fanPoint ∧
      fanPoint.config.key = (keyed 9 2 .speed).key ∧ fanPoint.config.key ≠ (keyed 9 3 .speed).key := by
  have only (i : Fin 256) (k : Key) (h : i = 3 ∨ fanPoint.config.key ≠ k) : ¬ ∃ j p, j ≠ i ∧ shelf.point j = some p ∧ p.config.key = k := by
    rintro ⟨j, p, hj, hp, hk⟩
    obtain ⟨rfl, rfl⟩ := shelf_only hp
    rcases h with h | h
    · exact hj h.symm
    · exact h hk
  repeat' apply And.intro
  all_goals first
    | exact ready_asking (by decide)
    | exact only _ _ (.inl rfl)
    | exact only _ _ (.inr (by decide))
    | exact ⟨3, fanPoint, by decide, by rw [shelf_point]; rfl, rfl⟩
    | decide +kernel

theorem witness_PointRequests :
    let named (i : Fin 256) :=
      ∃ r, i ∈ (shelf.reg r).config.inputs ∨ ((shelf.reg r).config.inputs ≠ [] ∧ (shelf.reg r).config.feedback = some i)
    let stranger := { shelf with ru := { shelf.ru with manager := some 2 } }
    NewRequest (ask [19, 9, 2]) [] (asking [19, 9, 2] stranger) ∧ (ask [19, 9, 2]).src ≠ 2 ∧ Asked [18, 255] 18 2 shelf ∧ shelf.point 255 = none ∧ Asked [18, 3] 18 2 shelf ∧ shelf.point 3 ≠ none ∧ named 3 ∧
      Asked [18, 12] 18 2 room ∧ room.point 12 ≠ none ∧ (∀ r, (room.reg r).config.inputs = []) ∧
      Asked [20, 3, 128, 0, 2, 0] 20 6 shelf ∧ 1 < numAt (ask [20, 3, 128, 0, 2, 0]).payload 4 ∧
      Asked [20, 3, 127, 255, 0, 2] 20 6 shelf ∧ 1 < numAt (ask [20, 3, 127, 255, 0, 2]).payload 5 ∧
      Asked [20, 255, 0, 0, 1, 1] 20 6 shelf ∧ Asked [20, 3, 128, 0, 1, 1] 20 6 shelf ∧ numAt (ask [20, 3, 128, 0, 1, 1]).payload 4 ≤ 1 ∧
      numAt (ask [20, 3, 128, 0, 1, 1]).payload 5 ≤ 1 ∧ Asked [21, 255] 21 2 shelf ∧ Asked [21, 3] 21 2 shelf ∧
      Asked [19, 0, 2] 19 3 shelf ∧ Asked [19, 127, 2] 19 3 shelf ∧ Asked [19, 9, 16] 19 3 shelf ∧
      Asked [19, 9, 2] 19 3 shelf ∧ PointLaw shelf ∧ shelf.point 3 = some fanPoint ∧ fanPoint.config.key = { node := 9, channel := 2 } ∧
      Asked [19, 126, 15] 19 3 shelf ∧ (∀ i p, shelf.point i = some p → p.config.key ≠ { node := 126, channel := 15 }) := by
  have other : ∀ i p, shelf.point i = some p → p.config.key ≠ { node := 126, channel := 15 } := by
    intro i p h; obtain ⟨_, rfl⟩ := shelf_only h; decide
  refine ⟨⟨⟨rfl, rfl, rfl, rfl⟩, ⟨(by decide : 1 ≤ (1 : Byte).toNat), (by decide : (1 : Byte).toNat ≤ 126)⟩,
      (by decide : ∀ e ∈ shelf.ru.recent, e.ref ≠ { src := 1, seq := 7 })⟩, (by decide : (1 : Byte) ≠ 2),
    ?_, ?_, ?_, ?_, ?_, ?_, ?_, ?_, ?_, ?_, ?_, ?_, ?_, ?_, ?_, ?_, ?_, ?_, ?_, ?_, ?_, ?_, shelf_points, ?_, ?_, ?_, other⟩
  all_goals first | exact asked (by decide) (by decide) | decide +kernel

theorem witness_ReadingRequests :
    (∀ p, NewRequest (ask p) [] (asking p shelf)) ∧ Asked [1] 1 1 shelf ∧ Asked [2] 2 1 shelf ∧ Asked [17, 255] 17 2 shelf ∧ shelf.point 255 = none ∧
      Asked [17, 3] 17 2 shelf ∧ shelf.point 3 = some fanPoint ∧ Asked [34, 31, 0] 34 3 shelf ∧ Asked [34, 31, 1] 34 3 shelf ∧
      Asked [34, 31, 2] 34 3 shelf ∧ 2 ≤ numAt (ask [34, 31, 2]).payload 2 ∧ Asked [49, 15] 49 2 shelf ∧ Asked [67] 67 1 shelf ∧
      (ReadWhole shelf ∧ ReadWhole reading) ∧ (∃ x, reading.ru.execution = some x) ∧
      (∀ gs, Asked [2] 2 1 (shelf.withTurns [.groups gs]) ∧ (shelf.withTurns [.groups gs]).turns = .groups gs :: [] ∧
        (reading.withTurns [.groups gs]).turns = .groups gs :: [] ∧ ∃ x, (reading.withTurns [.groups gs]).ru.execution = some x) ∧
      OverrideLaw shelf ∧ ChannelLaw shelf ∧ SupervisorLaw shelf := by
  have served (gs : List StatusGroup) : Served (shelf.withTurns [.groups gs]) := (by decide : Served shelf)
  refine ⟨fun _ => (ready_asking (by decide)).toNewRequest, ?_, ?_, ?_, ?_, ?_, ?_, ?_, ?_, ?_, ?_, ?_, ?_, ⟨nofun, nofun⟩,
    ⟨_, rfl⟩, fun gs => ⟨asked (served gs) (by decide), rfl, rfl, _, rfl⟩, shelf_override, shelf_channels, shelf_supervisors⟩
  all_goals first | exact asked (by decide) (by decide) | decide +kernel

/-! ### Regulator Engine -/

theorem witness_CurveAndSlew :
    let c := fanRegulator.curve
    curveValid c = true ∧ c.head? = some { input := 250, level := 200 } ∧ c.getLast? = some { input := 600, level := 1000 } ∧
      c = [] ++ { input := 250, level := 200 } :: { input := 350, level := 400 } :: c.drop 2 ∧ (250 : Int) ≤ 250 ∧ (349 : Int) < 350 := by
  repeat' apply And.intro
  all_goals decide

/-- The fresh input values of a regulator, as PeriodExpiryAndEvaluation gathers them. -/
def freshOf (s : State) : List Int := fanRegulator.config.inputs.filterMap (fun i => match s.point i with
  | none => none
  | some p => if p.runtime.band = .unknown ∨ p.runtime.band = .stale then none else p.runtime.filtered)

theorem witness_PeriodExpiryAndEvaluation :
    timerDue (at_ 5900 shelf).timebase ((at_ 5900 shelf).reg 4).periodTimer = true ∧ (shelf.reg 4).state = .auto ∧
      (∀ x, ((shelf.setReg 4 { fanRegulator with state := x }).reg 4).state = x) ∧ freshOf stale3 = [] ∧
      freshOf shelf = [412] ∧ freshOf shelf ≠ [] ∧ fanRegulator.config.combine = .max ∧ (412 ∈ freshOf shelf ∧ ∀ y ∈ freshOf shelf, y ≤ 412) ∧
      (412 = (freshOf shelf).sum.tdiv (freshOf shelf).length) := by
  refine ⟨?_, ?_, fun x => (by simp [State.reg, State.setReg]), ?_, ?_, ?_, ?_, ?_, ?_⟩
  all_goals decide +kernel

/-- WRITE_REGULATOR of a regulator with a channel, a feedback presence and inputs; ceiling 900, failsafe 700, slew 100. -/
def writeReg (r actuator fed participate : Nat) (inputs : List Nat) : List Nat :=
  [32, r, 0, 1, 20, 3, 132, 2, 188, 0, 100, 10, actuator, fed, 3, 2, 88, 30, participate] ++ inputs

theorem witness_WriteRegulatorAndCurve :
    let same := { fanRegulator.config with feedback := some 3 }
    let usable (s : State) (c : RegulatorConfig) := (∀ i ∈ c.inputs, s.point i ≠ none) ∧
      (∀ i, c.feedback = some i → ∃ p, s.point i = some p ∧ p.config.kind = .speed)
    let aloof := shelf.setReg 4 { fanRegulator with config := { fanRegulator.config with participate := false } }
    Asked (writeReg 4 3 2 1 [3]) 32 20 shelf ∧ regulatorConfig? (ask (writeReg 4 3 2 1 [3])).payload = none ∧
      Asked (writeReg 31 3 1 1 [3, 1, 2, 0, 4, 5, 6]) 32 26 shelf ∧ regulatorConfig? (ask (writeReg 31 3 1 1 [3, 1, 2, 0, 4, 5, 6])).payload = none ∧
      regulatorConfig? (ask (writeReg 9 6 0 1 [9])).payload = some { same with inputs := [9], actuator := 6, feedback := none } ∧
      ¬ usable shelf { same with inputs := [9], actuator := 6, feedback := none } ∧
      regulatorConfig? (ask (writeReg 4 3 1 1 [3])).payload = some same ∧ usable shelf same ∧ same = fanRegulator.config ∧
      (shelf.reg 4).state ≠ .disabled ∧ (shelf.reg 4).config.feedback = same.feedback ∧
      regulatorConfig? (ask (writeReg 4 3 0 1 [3])).payload = some { same with feedback := none } ∧
      { same with feedback := none }.feedback ≠ (shelf.reg 4).config.feedback ∧
      (shelf.reg 9).state = .disabled ∧ (∃ o, o ≠ 9 ∧ (shelf.reg o).config.inputs ≠ [] ∧ (shelf.reg o).config.actuator = same.actuator) ∧
      (¬ ∃ o, o ≠ 4 ∧ (shelf.reg o).config.inputs ≠ [] ∧ (shelf.reg o).config.actuator = same.actuator) ∧
      (shelf.reg 4).config.participate = true ∧ regulatorConfig? (ask (writeReg 4 3 1 0 [3])).payload = some { same with participate := false } ∧
      ((shelf.setReg 4 { fanRegulator with state := .override }).reg 4).state = .override ∧
      (aloof.reg 4).config.participate = false ∧ (aloof.reg 4).state = .auto ∧ (alarmed [3] .active 10).om.phase ≠ .clear ∧ shelf.om.phase = .clear ∧
      Asked (writeReg 4 3 1 1 [3]) 32 20 shelf ∧
      Asked [33, 31, 1, 44, 0, 250, 1, 244, 3, 232] 33 (2 + 4 * 2) shelf ∧
      (let c := breakpointsOf ((ask [33, 31, 1, 44, 0, 250, 1, 244, 3, 232]).payload.drop 2)
       2 ≤ c.length ∧ c.length ≤ 8 ∧ c.Pairwise (fun a b => a.input < b.input) ∧ ∀ b ∈ c, b.level ≤ 1000) ∧
      Asked [33, 31, 1, 44, 0, 250] 33 (2 + 4 * 1) shelf ∧ ¬ 2 ≤ (breakpointsOf ((ask [33, 31, 1, 44, 0, 250]).payload.drop 2)).length := by
  have at3 : shelf.point 3 = some fanPoint := by rw [shelf_point]; rfl
  repeat' apply And.intro
  all_goals first
    | exact ready_asking (by decide)
    | (intro i hi; obtain rfl : i = 3 := by simpa [fanRegulator] using hi
       rw [at3]; exact Option.some_ne_none _)
    | (intro i hi; cases hi; exact ⟨fanPoint, at3, rfl⟩)
    | (rintro ⟨h, _⟩; exact absurd (h 9 (by decide)) (by rw [shelf_point]; decide))
    | decide +kernel

/-- The shelf with regulator 4 in a state that holds a manual level. -/
def manual (x : RegulatorState) (h : Option EntryRef) : State :=
  shelf.setReg 4 { fanRegulator with state := x, manualLevel := some 950, handover := h, periodTimer := none }

theorem witness_EnableAndDisable :
    let off := shelf.setReg 4 { fanRegulator with state := .disabled, periodTimer := none }
    let g := off.reg 4
    Asked [35, 31] 35 2 shelf ∧ (shelf.reg 31).config.inputs = [] ∧
      Asked [35, 4] 35 2 off ∧ (g.state = .disabled ∧ g.config.inputs ≠ [] ∧ 2 ≤ g.curve.length ∧ (off.chan g.config.actuator).config.node ≠ 0) ∧
      (shelf.sup 4).window.isSome ∧
      (∀ a p, (watched a p).sup 4 = p ∧ (∃ q, (watched a p).point 3 = some q ∧ q.runtime.band = .stale)) ∧ fanRegulator.config.feedback = some 3 ∧
      Asked [36, 4] 36 2 shelf ∧ (shelf.reg 4).state ≠ .handover ∧
      (∀ ref, ((manual .handover (some ref)).reg 4).state = .handover ∧ ((manual .handover (some ref)).reg 4).handover = some ref) := by
  refine ⟨asked (by decide) (by decide), by decide +kernel, asked (by decide) (by decide), ⟨?_, ?_, ?_, ?_⟩, by decide +kernel, ?_, rfl,
    asked (by decide) (by decide), by decide +kernel, fun ref => ⟨?_, ?_⟩⟩
  · decide +kernel
  · decide +kernel
  · decide +kernel
  · decide +kernel
  · intro a p
    exact ⟨by simp [watched, State.sup, State.setSup],
      fanPoint.wentStale, by simp [watched, stale3, State.point, State.setSup, State.setChan, State.setPoint], rfl⟩
  · simp [manual, State.reg, State.setReg]
  · simp [manual, State.reg, State.setReg]

theorem witness_ManualLevels :
    Asked [37, 31, 3, 232] 37 4 shelf ∧ Asked [37, 4, 3, 233] 37 4 shelf ∧ 1000 < num16At (ask [37, 4, 3, 233]).payload 2 ∧
      num16At (ask [37, 4, 3, 232]).payload 2 ≤ 1000 ∧ Asked [37, 4, 3, 232] 37 4 shelf ∧ (shelf.reg 31).state = .disabled ∧
      (∀ x h, ((manual x h).reg 4).state = x) ∧ (shelf.reg 4).state = .auto ∧
      ¬ ExchangeOpen (shelf.chan 3) ∧ (ExchangeOpen ((shelf.setChan 3 waitingFan).chan 3) ∧ ¬ OpenedTogether ((shelf.setChan 3 waitingFan).chan 3)) ∧
      (let k := (shelf.setChan 3 { waitingFan with justOpened := true }).chan 3; ExchangeOpen k ∧ OpenedTogether k) ∧
      (shelf.turns.head? ≠ some .readFirst ∧ (shelf.withTurns [.readFirst]).turns.head? = some .readFirst) ∧ shelf.ru.recent.countP (fun e => e.status = .pending) < 3 ∧
      3 ≤ (crowded shelf).ru.recent.countP (fun e => e.status = .pending) ∧ Asked [37, 4, 0, 0] 37 4 (crowded shelf) ∧
      Asked [38, 4, 3, 233] 38 4 shelf ∧ Asked [38, 4, 3, 232] 38 4 shelf ∧ (shelf.reg 4).state ≠ .manual ∧ (shelf.reg 4).state ≠ .handover := by
  refine ⟨?_, ?_, ?_, ?_, ?_, ?_, fun x h => (by simp [manual, State.reg, State.setReg]), ?_, ?_, ?_, ?_, ?_, ?_, ?_, ?_, ?_, ?_, ?_, ?_⟩
  all_goals first | exact asked (by decide) (by decide) | decide +kernel | (simp only [ExchangeOpen, OpenedTogether]; decide +kernel)

theorem witness_ReleaseManual :
    (∀ x h, Asked [39, 4] 39 2 (manual x h) ∧ ((manual x h).reg 4).state = x ∧ ((manual x h).reg 4).handover = h) ∧ Asked [39, 31] 39 2 shelf ∧
      (shelf.reg 31).state ≠ .manual ∧ (shelf.reg 31).state ≠ .handover := by
  refine ⟨fun x h => ⟨asked (by decide : Served shelf) (by decide), ?_, ?_⟩, asked (by decide) (by decide), ?_, ?_⟩
  · simp [manual, State.reg, State.setReg]
  · simp [manual, State.reg, State.setReg]
  · decide +kernel
  · decide +kernel

/-! ### Actuator Exchange -/

theorem shelf_no_alert (c : Fin 16) : c ∉ shelf.nu.alert.faulted := List.not_mem_nil

/-- The shelf with one lawful channel 3 in place of its own. -/
theorem channels_with (k : Channel) (h : k.Lawful) (hc : k.config = fanChannel.config) (ht : k.transmitting = false)
    (hf : k.faulted = false) : ChannelLaw (shelf.setChan 3 k) := by
  have at_ (c : Fin 16) : (shelf.setChan 3 k).chan c = if c = 3 then k else Channel.default := by
    by_cases e : c = 3
    · subst e; simp [State.chan, State.setChan]
    · have : (3 : ℕ) ≠ c.val := fun x => e (Fin.ext x.symm)
      rw [if_neg e, ← (shelf_chan c).trans (if_neg e)]
      simp only [State.chan, State.setChan]
      exact Vector.getElem_set_ne _ _ this
  refine ⟨?_, ?_, ?_, ?_⟩
  · intro c; rw [at_]; split; exacts [h, idleChannel_lawful]
  · intro c d hb hn _
    rw [at_] at hb hn
    rw [at_] at hn
    split at hn <;> split at hn <;> simp_all [fanChannel, Channel.default, Channel.bound]
  · intro c hx; rw [at_] at hx; split at hx
    · rw [ht] at hx; cases hx
    · cases hx
  · intro c
    have no : c ∉ (shelf.setChan 3 k).nu.alert.faulted := shelf_no_alert c
    rw [at_]
    split
    · rw [hf]; exact ⟨fun x => absurd x no, fun x => nomatch x⟩
    · exact ⟨fun x => absurd x no, fun x => nomatch x⟩

/-- Channel 3 with exchange 41 for level 400 open. -/
def openFan : Channel := { fanChannel with state := .awaitAck, seq := 41, inFlight := some 400, ackTimer := some 5300 }

theorem openFan_lawful : openFan.Lawful where
  node := by decide
  ackTimeout := by decide
  retryLimit := by decide
  retries := by decide
  idle_retries := by decide
  inFlight := by decide
  ackTimer := by decide
  probeTimer := by decide
  transmitting := by decide
  probing := by decide
  working := by decide
  acked := by intro l h; cases h; decide

/-- Channel 3 in FAULT, and probing. -/
def faultyFan : Channel := { fanChannel with state := .fault, probeTimer := some 10000 }
def probingFan : Channel := { openFan with probing := true }

theorem witness_Acknowledgements :
    let f : Frame := frame 20 3 [1, 0, 1, 144]
    let s := shelf.setChan 3 openFan
    ArrivedHere f 5000 (arrived f shelf) ∧ f.dest = shelf.ownAddress ∧ f.type = 3 ∧
      (bytes [1, 0, 1]).length ≠ 4 ∧ 16 ≤ numAt (bytes [16, 0, 0, 0]) 0 ∧ 2 ≤ numAt (bytes [1, 2, 0, 0]) 1 ∧
      (numAt (bytes [1, 0, 3, 233]) 1 = 0 ∧ 1000 < num16At (bytes [1, 0, 3, 233]) 2) ∧
      (∀ c, (shelf.chan c).config.node = 33 → (shelf.chan c).state = .idle) ∧
      ChannelLaw s ∧ (bytes [1, 0, 1, 144]).length = 4 ∧ (s.chan 3).config.node = 33 ∧ (s.chan 3).config.nodeChannel.val = numAt (bytes [1, 0, 1, 144]) 0 ∧
      (s.chan 3).state ≠ .idle ∧ (s.chan 3).seq = 41 ∧ numAt (bytes [1, 0, 1, 144]) 1 = 0 ∧ num16At (bytes [1, 0, 1, 144]) 2 = 400 ∧
      num16At (bytes [1, 0, 3, 232]) 2 = 1000 ∧ numAt (bytes [1, 1, 0, 0]) 1 = 1 ∧ isFaulted openFan = false ∧
      (isFaulted probingFan = true ∧ probingFan.state ≠ .fault) ∧ faultyFan.state = .fault ∧ openFan.inFlight = some 400 := by
  refine ⟨arrived_other ?_ rfl rfl rfl (by decide : (9 : Byte) ≠ 20), ?_⟩
  · decide
  · repeat' apply And.intro
    all_goals first | exact channels_with openFan openFan_lawful rfl rfl rfl | decide +kernel

/-- A channel law does not rest on the regulators, and the law of the regulators on a channel only through its binding. -/
theorem regulators_with (g : Regulator) (h : g.Lawful) (hc : g.config = fanRegulator.config) : RegulatorLaw (shelf.setReg 4 g) := by
  have at_ (r : Fin 32) : (shelf.setReg 4 g).reg r = if r = 4 then g else Regulator.default := by
    by_cases e : r = 4
    · subst e; simp [State.reg, State.setReg]
    · have : (4 : ℕ) ≠ r.val := fun x => e (Fin.ext x.symm)
      rw [if_neg e, ← (shelf_reg r).trans (if_neg e)]
      simp only [State.reg, State.setReg]
      exact Vector.getElem_set_ne _ _ this
  have cfg (r : Fin 32) : ((shelf.setReg 4 g).reg r).config = (shelf.reg r).config := by
    rw [at_, shelf_reg]; split; exacts [hc, rfl]
  refine ⟨?_, ?_, ?_, ?_, ?_⟩
  · intro r; rw [at_]; split; exacts [h, idleRegulator_lawful]
  · intro r i hi; rw [cfg] at hi; exact shelf_regulators.inputs r i hi
  · intro r i hi
    refine shelf_regulators.feedback r i ?_
    simpa [Regulator.feedsBack, Regulator.configured, cfg] using hi
  · intro r q c hr hq
    refine shelf_regulators.channels r q c ?_ ?_
    · simpa [Regulator.namesChannel, Regulator.configured, cfg] using hr
    · simpa [Regulator.namesChannel, Regulator.configured, cfg] using hq
  · intro r hr
    rw [cfg]
    refine shelf_regulators.bound r ?_
    rw [at_] at hr
    rw [shelf_reg]
    split at hr
    · rw [if_pos ‹_›]; decide
    · exact absurd rfl hr

/-- Regulator 4 in HANDOVER to level 950. -/
def drainingRegulator : Regulator :=
  { fanRegulator with state := .handover, manualLevel := some 950, handover := some { src := 1, seq := 5 }, periodTimer := none }

theorem drainingRegulator_lawful : drainingRegulator.Lawful where
  ranges := { inputs := by decide, offHyst := by decide, ceiling := by decide, failsafe := by decide, slew := by decide
              period := by decide, stallWindow := by decide, curve := by decide, output := by intro l h; cases h; decide
              manual := by intro l h; cases h; decide }
  manual := by decide
  handover := by decide
  timer := by decide
  output := by decide
  enabled := by decide

theorem witness_ChannelTimersAndHandover :
    let at5300 (k : Channel) := at_ 5300 (shelf.setChan 3 k)
    let s := shelf.setReg 4 drainingRegulator
    ((at5300 openFan).chan 3).state = .awaitAck ∧ timerDue (at5300 openFan).timebase ((at5300 openFan).chan 3).ackTimer = true ∧
      probingFan.probing = true ∧ openFan.probing = false ∧ { openFan with retries := 2 }.retries < openFan.config.retryLimit ∧
      openFan.config.retryLimit ≤ { openFan with retries := 3 }.retries ∧
      (let t := at_ 10000 (shelf.setChan 3 faultyFan); (t.chan 3).state = .fault ∧ timerDue t.timebase (t.chan 3).probeTimer = true) ∧
      RegulatorLaw s ∧ (s.reg 4).config.inputs ≠ [] ∧ (s.reg 4).config.actuator = 3 ∧ (s.reg 4).state = .handover ∧
      (s.reg 4).handover = some { src := 1, seq := 5 } ∧ (s.reg 4).manualLevel = some 950 ∧ RegulatorLaw shelf ∧ (shelf.reg 4).state ≠ .handover ∧
      (∀ r, (shelf.reg r).config.inputs = [] ∨ (shelf.reg r).config.actuator ≠ 15) := by
  repeat' apply And.intro
  all_goals first
    | exact shelf_regulators
    | exact regulators_with drainingRegulator drainingRegulator_lawful rfl
    | decide +kernel

theorem witness_ChannelRequests :
    let config (node : Byte) (c : Fin 16) (t r : Nat) : ChannelConfig := { node := node, nodeChannel := c, ackTimeout := t, retryLimit := r }
    let off := shelf.setReg 4 { fanRegulator with state := .disabled, periodTimer := none }
    Asked [48, 15, 127, 0, 1, 0] 48 6 shelf ∧ 126 < numAt (ask [48, 15, 127, 0, 1, 0]).payload 2 ∧
      15 < numAt (ask [48, 15, 1, 16, 1, 0]).payload 3 ∧ numAt (ask [48, 15, 1, 0, 0, 0]).payload 4 = 0 ∧ 7 < numAt (ask [48, 15, 1, 0, 1, 8]).payload 5 ∧
      Asked [48, 15, 126, 15, 255, 7] 48 6 shelf ∧ (config 126 15 255 7).node = byteAt (ask [48, 15, 126, 15, 255, 7]).payload 2 ∧
      (config 126 15 255 7).nodeChannel.val = numAt (ask [48, 15, 126, 15, 255, 7]).payload 3 ∧
      (config 126 15 255 7).ackTimeout = numAt (ask [48, 15, 126, 15, 255, 7]).payload 4 ∧
      (config 126 15 255 7).retryLimit = numAt (ask [48, 15, 126, 15, 255, 7]).payload 5 ∧
      (¬ ∃ r, (shelf.reg r).state ≠ .disabled ∧ (shelf.reg r).config.inputs ≠ [] ∧ (shelf.reg r).config.actuator = 15) ∧
      ¬ ((shelf.chan 15).state = .sending ∨ (shelf.chan 15).state = .awaitAck) ∧
      (¬ ∃ d, d ≠ 15 ∧ (shelf.chan d).config.node = 126 ∧ (shelf.chan d).config.nodeChannel = 15) ∧
      Asked [48, 3, 33, 1, 1, 0] 48 6 shelf ∧
      (∃ r, (shelf.reg r).state ≠ .disabled ∧ (shelf.reg r).config.inputs ≠ [] ∧ (shelf.reg r).config.actuator = 3) ∧
      Asked [48, 15, 33, 1, 1, 0] 48 6 shelf ∧ (∃ d, d ≠ 15 ∧ (shelf.chan d).config.node = 33 ∧ (shelf.chan d).config.nodeChannel = 1) ∧
      Asked [48, 3, 33, 1, 1, 0] 48 6 off ∧
      (¬ ∃ r, (off.reg r).state ≠ .disabled ∧ (off.reg r).config.inputs ≠ [] ∧ (off.reg r).config.actuator = 3) ∧
      (¬ ∃ d, d ≠ 3 ∧ (off.chan d).config.node = 33 ∧ (off.chan d).config.nodeChannel = 1) ∧
      (config 33 1 1 0).node = (off.chan 3).config.node ∧ (config 33 1 1 0).nodeChannel = (off.chan 3).config.nodeChannel ∧
      Asked [48, 3, 0, 0, 1, 0] 48 6 off ∧ (config 0 0 1 0).node ≠ (off.chan 3).config.node ∧
      Asked [48, 15, 0, 4, 1, 0] 48 6 shelf ∧ (config 0 4 1 0).node = 0 ∧ (shelf.chan 15).config.node = 0 ∧
      Asked [50, 15] 50 2 shelf ∧ Asked [50, 3] 50 2 (shelf.setChan 3 probingFan) := by
  repeat' apply And.intro
  all_goals first | exact ready_asking (by decide) | decide +kernel

/-! ### Notes, counters, RESTART and the sweep -/

/-- A full queue: 32 notes, the unsent ones INFO but for the first, WARN. -/
def fullQueue (first : Severity) : NoteUnit :=
  let n (i : Nat) : Note := { kind := .watch, subject := some i, value := 0, severity := .info, timestamp := 0 }
  { shelf.nu with unsent := { n 0 with severity := first } :: (List.range 30).map (fun i => n (i + 1)) }

theorem witness_RaisedNotes :
    (∃ m ∈ shelf.nu.unsent, m.kind = .stale ∧ m.subject = some 3) ∧ (∀ m ∈ shelf.nu.unsent, ¬ (m.kind = .link ∧ m.subject = none)) ∧
      shelf.nu.inFlight.length + shelf.nu.unsent.length < 32 ∧
      (∀ m ∈ (fullQueue .warn).unsent, ¬ (m.kind = .link ∧ m.subject = none)) ∧
      32 ≤ (fullQueue .warn).inFlight.length + (fullQueue .warn).unsent.length ∧
      (∃ before m behind, (fullQueue .warn).unsent = before ++ m :: behind ∧ before.length = 1 ∧
        (∀ x ∈ before, Severity.warn.code ≤ x.severity.code) ∧ m.severity.code < Severity.warn.code) ∧
      (∀ x ∈ (fullQueue .warn).unsent, Severity.info.code ≤ x.severity.code) := by
  refine ⟨?_, ?_, ?_, ?_, ?_, ?_, ?_⟩
  case refine_6 => exact ⟨(fullQueue .warn).unsent.take 1, _, (fullQueue .warn).unsent.drop 2, rfl, rfl, by decide, by decide⟩
  all_goals decide +kernel

/-- Counter 0 counts CRC_ERROR and stands before its overflow, with these flags. -/
def counting (note freeze frozen : Bool) : State :=
  shelf.withCounters
    { counter := #v[{ selector := some .crcError, noteOnOverflow := note, freezeOnOverflow := freeze, value := 2147483647 }, Counter.off,
        Counter.off, Counter.off]
      frozen := frozen }

theorem witness_CountedEvents :
    let overflows (s : State) (i : Fin 4) := s.counters.counter[i].selector = some .crcError ∧ s.counters.counter[i].value = 2147483647
    (counting true true true).counters.frozen = true ∧ shelf.counters.frozen = false ∧ (∀ i, ¬ overflows shelf i) ∧
      (∀ n f, (counting n f false).counters.frozen = false ∧ overflows (counting n f false) 0 ∧
        (∀ j, j ≠ 0 → ¬ overflows (counting n f false) j) ∧ (counting n f false).counters.counter[(0 : Fin 4)].noteOnOverflow = n) ∧
      (counting true true false).nu.inFlight.length + (counting true true false).nu.unsent.length < 32 ∧
      Asked ([66, 16] ++ List.replicate 23 0) 66 25 shelf ∧ counterEntries? (ask ([66, 16] ++ List.replicate 23 0)).payload = none ∧
      Asked ([66, 15, 3] ++ List.replicate 22 255) 66 25 shelf ∧ Asked ([66, 15, 3] ++ List.replicate 22 0) 66 25 shelf ∧
      (counterEntries? (ask ([66, 15, 3] ++ List.replicate 22 0)).payload).isSome := by
  refine ⟨rfl, rfl, by decide, ?_, by decide, ?_, ?_, ?_, ?_, ?_⟩
  · intro n f
    refine ⟨rfl, ⟨rfl, rfl⟩, ?_, rfl⟩
    intro j hj
    fin_cases j <;> simp_all [counting, Counter.off]
  all_goals first | exact asked (by decide) (by decide) | decide +kernel

theorem witness_ResendAndAcknowledge :
    timerDue shelf.timebase shelf.nu.resendTimer = true ∧ Asked [64, 1, 244] 64 3 shelf ∧
      (let x := (byteAt (ask [64, 1, 244]).payload 1 ++ byteAt (ask [64, 1, 244]).payload 2 : BitVec 16)
       ∀ n ∈ shelf.nu.inFlight, n.sequence ≠ x) ∧
      Asked [64, 1, 243] 64 3 shelf ∧
      (let x := (byteAt (ask [64, 1, 243]).payload 1 ++ byteAt (ask [64, 1, 243]).payload 2 : BitVec 16)
       ∃ ahead n behind, shelf.nu.inFlight = ahead ++ n :: behind ∧ n.sequence = x ∧ ∀ m ∈ ahead, m.sequence ≠ x) := by
  refine ⟨by decide, asked (by decide) (by decide), by decide, asked (by decide) (by decide), [], _, [], rfl, by decide, ?_⟩
  intro m h; cases h

theorem witness_BindAndUnbind :
    let stranger := { shelf with ru := { shelf.ru with manager := some 2 } }
    (∀ p, NewRequest (ask p) [] (asking p stranger)) ∧ Carries (ask [3]) 3 1 ∧ Carries (ask [4]) 4 1 ∧ Asked [3] 3 1 State.reset ∧
      State.reset.ru.manager = none ∧ Asked [3] 3 1 shelf ∧ shelf.ru.manager = some (ask [3]).src ∧ stranger.ru.manager = some 2 ∧ (2 : Byte) ≠ (ask [3]).src ∧
      (shelf.nu.inFlight.map (·.note) ++ shelf.nu.unsent).Pairwise (fun a b => ¬ (a.kind = b.kind ∧ a.subject = b.subject)) ∧
      (∃ before n behind, shelf.nu.inFlight.map (·.note) ++ shelf.nu.unsent = before ++ n :: behind ∧ before.length = 1 ∧ behind = [] ∧
        (∀ x ∈ before, ¬ (x.kind = n.kind ∧ x.subject = n.subject)) ∧ n ∈ mergeAlike (shelf.nu.inFlight.map (·.note) ++ shelf.nu.unsent)) := by
  refine ⟨fun _ => ⟨⟨rfl, rfl, rfl, rfl⟩, ⟨(by decide : 1 ≤ (1 : Byte).toNat), (by decide : (1 : Byte).toNat ≤ 126)⟩,
      (by decide : ∀ e ∈ shelf.ru.recent, e.ref ≠ { src := 1, seq := 7 })⟩, ⟨by decide, by decide⟩,
    ⟨by decide, by decide⟩, asked (by decide) (by decide), rfl, asked (by decide) (by decide), rfl, rfl, by decide, by decide,
    [_], _, [], rfl, rfl, rfl, by decide, by decide⟩

theorem witness_RestartAndClearAll :
    Asked [5] 5 1 shelf ∧ Asked [6] 6 1 shelf ∧ RegulatorLaw shelf ∧ RegulatorLaw (shelf.setReg 4 drainingRegulator) ∧ (shelf.reg 0).state = .disabled ∧
      (shelf.reg 4).state = .auto ∧ drainingRegulator.state = .handover ∧ drainingRegulator.manualLevel = some 950 ∧
      (∀ r, (shelf.reg r).config.actuator = 15 → (shelf.reg r).state = .disabled) :=
  ⟨asked (by decide) (by decide), asked (by decide) (by decide), shelf_regulators, regulators_with _ drainingRegulator_lawful rfl,
    by decide +kernel, by decide +kernel, rfl, rfl, by decide +kernel⟩

theorem witness_Sweeping :
    let valid (p : List Nat) := let q := ask p
      num16At q.payload 1 ≤ num16At q.payload 3 ∧ num16At q.payload 3 ≤ 255 ∧ 1 ≤ numAt q.payload 5 ∧ numAt q.payload 5 ≤ 3
    let held (s : State) := s.ru.recent.countP (fun e => e.status = .pending)
    Asked [65, 0, 0, 1, 0, 3] 65 6 shelf ∧ ¬ valid [65, 0, 0, 1, 0, 3] ∧ ¬ valid [65, 0, 1, 0, 0, 3] ∧ ¬ valid [65, 0, 0, 0, 0, 0] ∧ ¬ valid [65, 0, 0, 0, 0, 4] ∧
      Asked [65, 0, 0, 0, 255, 3] 65 6 shelf ∧ valid [65, 0, 0, 0, 255, 3] ∧ shelf.sweep ≠ none ∧ Asked [65, 0, 0, 0, 255, 3] 65 6 (crowded shelf) ∧
      3 ≤ held (crowded shelf) ∧ Asked [65, 0, 0, 0, 255, 3] 65 6 still ∧ still.sweep = none ∧ held still < 3 ∧
      (at_ 5001 shelf).sweep = some halfSweep ∧ timerDue (at_ 5001 shelf).timebase halfSweep.stepTimer = true ∧ SweepLaw shelf ∧
      min (halfSweep.next + 16) (halfSweep.last + 1) ≤ halfSweep.last ∧
      halfSweep.last < min ({ halfSweep with next := 240 }.next + 16) (halfSweep.last + 1) ∧ OverrideLaw shelf ∧
      { halfSweep with rebase := false }.rebase = false ∧ halfSweep.rebase = true := by
  refine ⟨?_, ?_, ?_, ?_, ?_, ?_, ?_, ?_, ?_, ?_, ?_, ?_, ?_, rfl, ?_, shelf_sweep, ?_, ?_, shelf_override, rfl, rfl⟩
  all_goals first | exact asked (by decide) (by decide) | decide +kernel

theorem witness_ConfigurationsReadBack :
    (keyed 126 15 .generic).InRange ∧ valueInRange (keyed 126 15 .generic).thresholds.lowCrit ∧ valueInRange (some (-32768)) ∧
      pointConfig? (bytes write12) ≠ none ∧ fanRegulator.config.InRange ∧
      valueInRange (some fanRegulator.config.stallFloor) ∧
      (∀ b ∈ fanRegulator.curve, -32768 ≤ b.input ∧ b.input ≤ 32767 ∧ b.level ≤ 1000) := by
  refine ⟨?_, ?_, ?_, ?_, ?_, ?_, ?_⟩
  · exact { node := by decide, gain := by decide, offset := by decide, ascending := by decide, hyst := by decide, maxAge := by decide
            deadband := by decide, refresh := by decide }
  · intro x h; cases h
  · intro x h; cases h; decide
  · decide +kernel
  · exact { inputs := by decide, offHyst := by decide, ceiling := by decide, failsafe := by decide, slew := by decide
            period := by decide, stallWindow := by decide }
  · intro x h; cases h; decide
  · decide

end Sys2Proof.Tests
end

section
/-! The Point Table: the readings that are not accepted (R24, R25), the requests on points and watches (R40, R41, R55, R56). Both stand
on two layers: the look-up by key, and what a request taken as a new one leaves, in the words of the statements. -/

namespace Sys2Proof.Machine
open Sys2Proof.Claims

variable {q : Request} {rest : List Request} {s u : State} {i : Fin 256} {p : Point} {k : Key}

/-! ## Look-up by key (R23, R24) -/

/-- A record matches a key in the look-up exactly when it is occupied under that key. -/
theorem point_any_key_iff : (s.point i).any (fun p => p.config.key = k) = true ↔ ∃ p, s.point i = some p ∧ p.config.key = k := by
  simp only [Option.any_eq_true, decide_eq_true_eq]

theorem findKey_eq_none_iff : findKey s k = none ↔ ∀ i p, s.point i = some p → p.config.key ≠ k := by
  unfold findKey
  simp only [List.find?_eq_none, List.mem_finRange, true_implies, point_any_key_iff, not_exists, not_and]

/-- The look-up answers only records that are occupied under the key. -/
theorem point_of_findKey (h : findKey s k = some i) : ∃ p, s.point i = some p ∧ p.config.key = k :=
  point_any_key_iff.1 (List.find?_some (p := fun j => (s.point j).any (fun (p : Point) => p.config.key = k)) h)

theorem exists_findKey (hp : s.point i = some p) (hk : p.config.key = k) : ∃ j, findKey s k = some j := by
  cases hf : findKey s k with
  | some j => exact ⟨j, rfl⟩
  | none => exact absurd hk (findKey_eq_none_iff.1 hf i p hp)

/-- R23: under distinct keys the look-up finds the one record that has the key. -/
theorem PointLaw.findKey_eq (law : PointLaw s) (hp : s.point i = some p) (hk : p.config.key = k) : findKey s k = some i := by
  obtain ⟨j, hj⟩ := exists_findKey hp hk
  obtain ⟨p', hp', hk'⟩ := point_of_findKey hj
  rw [hj, law.keys j i p' p hp' hp (hk'.trans hk.symm)]

/-! ## Readings that are not accepted (R25) -/

theorem takeReading_unmatched {src : Byte} {r : Reading} (h : findKey s { node := src, channel := r.channel } = none) :
    takeReading src r s = (signal .readingsUnmatched s, true) := by
  unfold takeReading; rw [h]

theorem takeReading_failed {src : Byte} {r : Reading} (h : findKey s { node := src, channel := r.channel } = some i)
    (hr : r.failed = true) : takeReading src r s = (signal .readingsMatched s, true) := by
  unfold takeReading; simp only [h, hr, if_true]

/-- Settles O35: the readings are taken one after another by the recursion of `takeReadings`; the look-up by key decides what happens to
one that is not accepted. -/
theorem readingsThatAreNotAccepted : Obligations.ReadingsThatAreNotAccepted := by
  refine ⟨fun src r rest s => ⟨rfl, rfl⟩, fun src r s => ⟨rfl, ?unmatched, ?failed⟩⟩
  case unmatched => exact fun hnone => takeReading_unmatched (findKey_eq_none_iff.2 hnone)
  case failed =>
    intro i p hp hk hfailed
    obtain ⟨j, hj⟩ := exists_findKey hp hk
    exact takeReading_failed hj hfailed

/-! ## Node addresses (R34, R147) -/

/-- The node of a key and the src of a request are 1 to 126. -/
theorem nodeValid_of_range {b : Byte} (hlow : 1 ≤ b.toNat) (hhigh : b.toNat ≤ 126) : nodeValid b = true := by
  simp [nodeValid, hlow, hhigh]

theorem nodeValid_eq_false {b : Byte} (h : b.toNat = 0 ∨ 126 < b.toNat) : nodeValid b = false := by
  simp only [nodeValid, Bool.and_eq_false_iff, decide_eq_false_iff_not]
  omega

/-! ## A request taken as a new one (R146 to R153), in the words of the statements -/

theorem requestCode?_byte (c : RequestCode) : requestCode? c.byte = some c := by cases c <;> rfl

theorem Request.code?_of_head {c : RequestCode} (h : q.payload.head? = some c.byte) : q.code? = some c := by
  obtain ⟨tail, ht⟩ := List.head?_eq_some_iff.1 h
  unfold Request.code?
  rw [ht]
  exact requestCode?_byte c

/-- R151: without a manager, and for the manager's own requests, every request passes. -/
theorem authorised_of_manager {m : Option Byte} (h : m = none ∨ m = some q.src) : authorised m q = true := by
  obtain rfl | rfl := h
  · rfl
  · cases hq : q.code? <;> simp [authorised, hq]

/-- R151: a request that is open to all passes from any node. -/
theorem authorised_of_openToAll {c : RequestCode} (m : Option Byte) (hq : q.code? = some c) (hc : c.openToAll = true) :
    authorised m q = true := by
  cases m <;> simp [authorised, hq, hc]

/-- R149: the model makes room in the Recent Request List as the statements do. -/
theorem dequeued_makeRoom : (s.dequeued rest).withRu (s.dequeued rest).ru.makeRoom = taken rest s := by
  by_cases h : s.ru.recent.length < 4 <;>
    simp [State.dequeued, State.withRu, RequestUnit.makeRoom, Config.recentMax, taken, roomIn, h]

theorem place_eq_placed (r : Reply) (u : RequestUnit) : u.place r = placed r u := by
  simp [RequestUnit.place, placed]

theorem Request.codeByte_eq_headD (q : Request) : q.codeByte = q.payload.headD 0 := by
  cases h : q.payload <;> simp [Request.codeByte, byteAt, h]

theorem finish_ok (data : List Byte) : finish q (.reply .ok data) s = answered q .ok data s := by
  simp only [finish]
  rw [formReply_ok rfl, place_eq_placed, Request.codeByte_eq_headD]
  rfl

theorem finish_refuse {status : Status} (h : status ≠ .ok) : finish q (refuse status) s = refusedWith q status s := by
  simp only [finish, refuse]
  rw [formReply_refused h, place_eq_placed, Request.codeByte_eq_headD]
  rfl

/-- A new request with the code `c` that passes the checks before its owner's claim: an admitted length (R150) and authority (R151). -/
structure Executable (c : RequestCode) (q : Request) (rest : List Request) (s : State) : Prop extends NewRequest q rest s where
  code : q.code? = some c
  form : q.formatOk = true
  authority : authorised s.ru.manager q = true

section
variable {c : RequestCode} {n : Nat} {owner : Owner} {status : Status} {data : List Byte}

theorem executable_of_carries (hq : NewRequest q rest s) (hc : Carries q c.byte n) (hn : c.admits n = true)
    (ha : q.code? = some c → authorised s.ru.manager q = true) : Executable c q rest s := by
  have hcode : q.code? = some c := Request.code?_of_head hc.1
  exact { hq with code := hcode, form := by simp [Request.formatOk, hcode, hc.2, hn], authority := ha hcode }

theorem executable_of_ready (hq : Ready q rest s) (hc : Carries q c.byte n) (hn : c.admits n = true) : Executable c q rest s :=
  executable_of_carries hq.toNewRequest hc hn (fun _ => authorised_of_manager hq.authority)

theorem executable_of_openToAll (hq : NewRequest q rest s) (hc : Carries q c.byte n) (hn : c.admits n = true)
    (ho : c.openToAll = true) : Executable c q rest s :=
  executable_of_carries hq hc hn (fun hcode => authorised_of_openToAll _ hcode ho)

/-- R146 to R152: such a request is executed as its owner's claim. -/
theorem Executable.takeRequest_eq (hx : Executable c q rest s) (owner : Owner) :
    takeRequest (hasCode c) owner s = finish q (owner q (taken rest s)).2 (owner q (taken rest s)).1 := by
  have hsrc : srcUsable q.src = true := nodeValid_of_range hx.src.1 hx.src.2
  have hnew : (s.dequeued rest).ru.find q.ref = none := find_none hx.unseen
  rw [takeRequest_takes _ owner hx.fifo hx.slot hx.ready hx.idle (by simp [hasCode, hx.code]), serve_new owner hsrc hnew,
    serveNew_executed (s := s.dequeued rest) owner hx.form hx.authority, dequeued_makeRoom]

/-- The command's outcome when the owner answers OK. -/
theorem Executable.next_answered (hx : Executable c q rest s) (ho : owner q (taken rest s) = (u, .reply .ok data)) :
    (.next (takeRequest (hasCode c) owner s) : Host.Outcome State Fault Refusal) = .next (answered q .ok data u) := by
  rw [hx.takeRequest_eq, ho, finish_ok]

/-- The command's outcome when the owner refuses. -/
theorem Executable.next_refused (hx : Executable c q rest s) (ho : owner q (taken rest s) = (u, refuse status))
    (hs : status ≠ .ok) :
    (.next (takeRequest (hasCode c) owner s) : Host.Outcome State Fault Refusal) = .next (refusedWith q status u) := by
  rw [hx.takeRequest_eq, ho, finish_refuse hs]

end

/-! ## Fields of the point requests (sections 11.2 and 11.5) -/

/-- Section 2.7: one byte always names a record. -/
theorem pointOf_byteAt {l : List Byte} (h : numAt l 1 = i.val) : pointOf (byteAt l 1) = i := Fin.ext h

theorem byte_eq_zero_iff (b : Byte) : b = 0 ↔ b.toNat = 0 := BitVec.toNat_inj.symm
theorem byte_eq_one_iff (b : Byte) : b = 1 ↔ b.toNat = 1 := BitVec.toNat_inj.symm

/-- R193: a flag byte is 0 or 1. -/
theorem flag?_defined {b : Byte} (h : b.toNat ≤ 1) : flag? b = some (decide (b.toNat = 1)) := by
  unfold flag?
  simp only [byte_eq_zero_iff, byte_eq_one_iff]
  obtain h0 | h1 : b.toNat = 0 ∨ b.toNat = 1 := by omega
  · simp [h0]
  · simp [h1]

theorem flag?_undefined {b : Byte} (h : 1 < b.toNat) : flag? b = none := by
  unfold flag?
  rw [if_neg (by rw [byte_eq_zero_iff]; omega), if_neg (by rw [byte_eq_one_iff]; omega)]

/-- Section 11.2: a direction byte is defined as a flag byte is, 0 ABOVE and 1 BELOW. -/
theorem watchDirection?_eq_flag (b : Byte) : watchDirection? b = (flag? b).map (fun below => if below then .below else .above) := by
  unfold watchDirection? flag?
  split
  · rfl
  · split <;> rfl

theorem watchDirection?_defined {b : Byte} (h : b.toNat ≤ 1) :
    watchDirection? b = some (if b.toNat = 0 then .above else .below) := by
  rw [watchDirection?_eq_flag, flag?_defined h]
  obtain h0 | h1 : b.toNat = 0 ∨ b.toNat = 1 := by omega
  · simp [h0]
  · simp [h1]

theorem watchDirection?_undefined {b : Byte} (h : 1 < b.toNat) : watchDirection? b = none := by
  rw [watchDirection?_eq_flag, flag?_undefined h, Option.map_none]

theorem nodeChannel?_some {m : Nat} {c : Fin 16} (h : c.val = m) : nodeChannel? m = some c := by
  subst h; simp [nodeChannel?, channelIndex?]

theorem nodeChannel?_none {m : Nat} (h : 15 < m) : nodeChannel? m = none := by
  simp [nodeChannel?, channelIndex?]; omega

/-! ## The owners' claims, case by case -/

/-- R66: a regulator names a point as an input, or, when it has inputs, as its feedback point. -/
theorem pointNamed_iff : pointNamed s i = true ↔
    ∃ r, i ∈ (s.reg r).config.inputs ∨ ((s.reg r).config.inputs ≠ [] ∧ (s.reg r).config.feedback = some i) := by
  simp [pointNamed, Regulator.namesPoint, Regulator.feedsBack, Regulator.configured]

/-- R55: the watch that the bytes of a SET_WATCH describe (section 11.5), written fresh; `ownSetWatch_sets` ties it to the model. -/
def watchOf (l : List Byte) : Watch where
  threshold := valueAt l 2
  direction := if numAt l 4 = 0 then .above else .below
  note := decide (numAt l 5 = 1)
  valid := false
  tripped := false

section
variable (hi : numAt q.payload 1 = i.val)
include hi

theorem ownDeletePoint_unoccupied (hp : s.point i = none) : ownDeletePoint q s = (s, refuse .notFound) := by
  simp [ownDeletePoint, pointOf_byteAt hi, hp]

theorem ownDeletePoint_named (hp : s.point i ≠ none) (hnamed : pointNamed s i = true) :
    ownDeletePoint q s = (s, refuse .inUse) := by
  simp [ownDeletePoint, pointOf_byteAt hi, hp, hnamed]

theorem ownDeletePoint_deletes (hp : s.point i ≠ none) (hnamed : pointNamed s i = false) :
    ownDeletePoint q s = (leaveCritical i (s.setPoint i none), .reply .ok [byteAt q.payload 1]) := by
  simp [ownDeletePoint, pointOf_byteAt hi, hp, hnamed]

theorem ownSetWatch_unoccupied (hd : numAt q.payload 4 ≤ 1) (hf : numAt q.payload 5 ≤ 1) (hp : s.point i = none) :
    ownSetWatch q s = (s, refuse .notFound) := by
  simp [ownSetWatch, pointOf_byteAt hi, watchDirection?_defined hd, flag?_defined hf, hp]

theorem ownSetWatch_sets (hd : numAt q.payload 4 ≤ 1) (hf : numAt q.payload 5 ≤ 1) (hp : s.point i = some p) :
    ownSetWatch q s =
      (s.setPoint i (some { p with watch := some (watchOf q.payload) }), .reply .ok [byteAt q.payload 1]) := by
  simp only [ownSetWatch, pointOf_byteAt hi, watchDirection?_defined hd, flag?_defined hf, hp]
  rfl

theorem ownClearWatch_unoccupied (hp : s.point i = none) : ownClearWatch q s = (s, refuse .notFound) := by
  simp [ownClearWatch, pointOf_byteAt hi, hp]

theorem ownClearWatch_clears (hp : s.point i = some p) :
    ownClearWatch q s = (s.setPoint i (some { p with watch := none }), .reply .ok [byteAt q.payload 1]) := by
  simp [ownClearWatch, pointOf_byteAt hi, hp]

end

/-- R55, R193: an undefined direction or note byte is refused whatever the record. -/
theorem ownSetWatch_undefined (h : 1 < numAt q.payload 4 ∨ 1 < numAt q.payload 5) : ownSetWatch q s = (s, refuse .range) := by
  obtain hd | hf := h
  · simp [ownSetWatch, watchDirection?_undefined hd]
  · simp [ownSetWatch, flag?_undefined hf]

/-- R41: a key outside the ranges of section 2.1 is refused before any look-up. -/
theorem ownFindPoint_undefined (h : numAt q.payload 1 = 0 ∨ 126 < numAt q.payload 1 ∨ 15 < numAt q.payload 2) :
    ownFindPoint q s = (s, refuse .range) := by
  obtain hchannel | hchannel := lt_or_ge 15 (numAt q.payload 2)
  · simp only [ownFindPoint, nodeChannel?_none hchannel]
  · have hnode : nodeValid (byteAt q.payload 1) = false := nodeValid_eq_false (by unfold numAt at h hchannel; omega)
    obtain ⟨c, hc⟩ : ∃ c, nodeChannel? (numAt q.payload 2) = some c :=
      ⟨⟨numAt q.payload 2, by omega⟩, nodeChannel?_some rfl⟩
    simp [ownFindPoint, hc, hnode]

section
variable (hnode : k.node = byteAt q.payload 1) (hchannel : k.channel.val = numAt q.payload 2) (hvalid : nodeValid k.node = true)
include hnode hchannel hvalid

theorem ownFindPoint_missing (hf : findKey s k = none) : ownFindPoint q s = (s, refuse .notFound) := by
  simp only [ownFindPoint, ← hnode, hvalid, nodeChannel?_some hchannel, hf, if_true]

theorem ownFindPoint_found (hf : findKey s k = some i) : ownFindPoint q s = (s, .reply .ok [byteOf i.val]) := by
  simp only [ownFindPoint, ← hnode, hvalid, nodeChannel?_some hchannel, hf, if_true]

end

/-! ## DELETE_POINT, SET_WATCH, CLEAR_WATCH and FIND_POINT -/

section
variable (hq : Ready q rest s) (hi : numAt q.payload 1 = i.val)
include hq hi

/-- R40: DELETE_POINT by the state of its record. -/
theorem execDeletePoint_cases (hc : Carries q 18 2) :
    (s.point i = none → execDeletePoint s = .next (refusedWith q .notFound (taken rest s))) ∧
    (s.point i ≠ none → pointNamed s i = true → execDeletePoint s = .next (refusedWith q .inUse (taken rest s))) ∧
    (s.point i ≠ none → pointNamed s i = false →
      execDeletePoint s = .next (answered q .ok [byteAt q.payload 1] (leaveCritical i ((taken rest s).setPoint i none)))) := by
  have hx : Executable .deletePoint q rest s := executable_of_ready hq hc rfl
  refine ⟨fun hp => ?_, fun hp hnamed => ?_, fun hp hnamed => ?_⟩
  · exact hx.next_refused (ownDeletePoint_unoccupied hi hp) (by decide)
  · exact hx.next_refused (ownDeletePoint_named hi hp hnamed) (by decide)
  · exact hx.next_answered (ownDeletePoint_deletes hi hp hnamed)

/-- R55: SET_WATCH by its operands and the state of its record. -/
theorem execSetWatch_cases (hc : Carries q 20 6) :
    (1 < numAt q.payload 4 ∨ 1 < numAt q.payload 5 → execSetWatch s = .next (refusedWith q .range (taken rest s))) ∧
    (numAt q.payload 4 ≤ 1 → numAt q.payload 5 ≤ 1 → s.point i = none →
      execSetWatch s = .next (refusedWith q .notFound (taken rest s))) ∧
    (∀ p, numAt q.payload 4 ≤ 1 → numAt q.payload 5 ≤ 1 → s.point i = some p →
      execSetWatch s = .next (answered q .ok [byteAt q.payload 1]
        ((taken rest s).setPoint i (some { p with watch := some (watchOf q.payload) })))) := by
  have hx : Executable .setWatch q rest s := executable_of_ready hq hc rfl
  refine ⟨fun hundef => ?_, fun hd hf hp => ?_, fun p hd hf hp => ?_⟩
  · exact hx.next_refused (ownSetWatch_undefined hundef) (by decide)
  · exact hx.next_refused (ownSetWatch_unoccupied hi hd hf hp) (by decide)
  · exact hx.next_answered (ownSetWatch_sets hi hd hf hp)

/-- R56: CLEAR_WATCH by the state of its record. -/
theorem execClearWatch_cases (hc : Carries q 21 2) :
    (s.point i = none → execClearWatch s = .next (refusedWith q .notFound (taken rest s))) ∧
    (∀ p, s.point i = some p → execClearWatch s =
      .next (answered q .ok [byteAt q.payload 1] ((taken rest s).setPoint i (some { p with watch := none })))) := by
  have hx : Executable .clearWatch q rest s := executable_of_ready hq hc rfl
  refine ⟨fun hp => ?_, fun p hp => ?_⟩
  · exact hx.next_refused (ownClearWatch_unoccupied hi hp) (by decide)
  · exact hx.next_answered (ownClearWatch_clears hi hp)

end

/-- R41, R151: FIND_POINT from any node, by its operands and the look-up. -/
theorem execFindPoint_cases (hq : NewRequest q rest s) (hc : Carries q 19 3) :
    (numAt q.payload 1 = 0 ∨ 126 < numAt q.payload 1 ∨ 15 < numAt q.payload 2 →
      execFindPoint s = .next (refusedWith q .range (taken rest s))) ∧
    (∀ k : Key, k.node = byteAt q.payload 1 → k.channel.val = numAt q.payload 2 →
      1 ≤ numAt q.payload 1 → numAt q.payload 1 ≤ 126 →
      (∀ i, findKey s k = some i → execFindPoint s = .next (answered q .ok [byteOf i.val] (taken rest s))) ∧
      (findKey s k = none → execFindPoint s = .next (refusedWith q .notFound (taken rest s)))) := by
  have hx : Executable .findPoint q rest s := executable_of_openToAll hq hc rfl rfl
  refine ⟨fun hundef => ?undefined, fun k hnode hchannel hlow hhigh => ?lookup⟩
  case undefined => exact hx.next_refused (ownFindPoint_undefined hundef) (by decide)
  case lookup =>
    have hvalid : nodeValid k.node = true := by rw [hnode]; exact nodeValid_of_range hlow hhigh
    exact ⟨fun i hf => hx.next_answered (ownFindPoint_found hnode hchannel hvalid hf),
      fun hf => hx.next_refused (ownFindPoint_missing hnode hchannel hvalid hf) (by decide)⟩

/-- Settles O43: each command by its cases, with the look-up and the naming of a record in the statement's words. -/
theorem pointRequests : Obligations.PointRequests := by
  intro q rest s hq
  refine ⟨fun i hmanager hi => ?_, fun hc => ?_⟩
  · have hready : Ready q rest s := { hq with authority := hmanager }
    refine ⟨fun hc => ?_, execSetWatch_cases hready hi, execClearWatch_cases hready hi⟩
    obtain ⟨hempty, hnamed, hdeleted⟩ := execDeletePoint_cases hready hi hc
    exact ⟨hempty, fun hp h => hnamed hp (pointNamed_iff.2 h),
      fun hp h => hdeleted hp (Bool.eq_false_iff.2 (fun hn => h (pointNamed_iff.1 hn)))⟩
  · obtain ⟨hundefined, hlookup⟩ := execFindPoint_cases hq hc
    refine ⟨hundefined, fun k hnode hchannel hlow hhigh => ?_⟩
    obtain ⟨hfound, hmissing⟩ := hlookup k hnode hchannel hlow hhigh
    exact ⟨fun i p law hp hk => hfound i (law.findKey_eq hp hk), fun hnone => hmissing (findKey_eq_none_iff.2 hnone)⟩

end Sys2Proof.Machine
end

section
/-! Bands (R44 to R48): the raw band by its tests in order, the retreat of each held band, and the band after a reading. -/

namespace Sys2Proof.Machine

variable {t : Thresholds} {hyst : Nat} {held b : Band} {v : Int} {o : Option Int}

/-! ## The raw band (R45) -/

/-- A high threshold is reached when it is present and at most the value. -/
theorem any_le_value_iff : o.any (fun h => decide (h ≤ v)) = true ↔ ∃ h, o = some h ∧ h ≤ v := by
  simp only [Option.any_eq_true, decide_eq_true_eq]

/-- A low threshold is reached when it is present and at least the value. -/
theorem any_value_le_iff : o.any (fun h => decide (v ≤ h)) = true ↔ ∃ h, o = some h ∧ v ≤ h := by
  simp only [Option.any_eq_true, decide_eq_true_eq]

section
variable (hcrit : ¬ ∃ h, t.highCrit = some h ∧ h ≤ v) (hwarn : ¬ ∃ h, t.highWarn = some h ∧ h ≤ v)
  (lcrit : ¬ ∃ h, t.lowCrit = some h ∧ v ≤ h) (lwarn : ¬ ∃ h, t.lowWarn = some h ∧ v ≤ h)

theorem rawBand_critHigh (reached : ∃ h, t.highCrit = some h ∧ h ≤ v) : t.rawBand v = .critHigh :=
  if_pos (any_le_value_iff.2 reached)

include hcrit

theorem rawBand_warnHigh (reached : ∃ h, t.highWarn = some h ∧ h ≤ v) : t.rawBand v = .warnHigh :=
  (if_neg (mt any_le_value_iff.1 hcrit)).trans (if_pos (any_le_value_iff.2 reached))

include hwarn

/-- The low thresholds are asked only when no high one is reached. -/
theorem rawBand_of_no_high : t.rawBand v =
    if t.lowCrit.any (fun h => decide (v ≤ h)) then .critLow
    else if t.lowWarn.any (fun h => decide (v ≤ h)) then .warnLow else .normal :=
  (if_neg (mt any_le_value_iff.1 hcrit)).trans (if_neg (mt any_le_value_iff.1 hwarn))

theorem rawBand_critLow (reached : ∃ h, t.lowCrit = some h ∧ v ≤ h) : t.rawBand v = .critLow :=
  (rawBand_of_no_high hcrit hwarn).trans (if_pos (any_value_le_iff.2 reached))

include lcrit

theorem rawBand_warnLow (reached : ∃ h, t.lowWarn = some h ∧ v ≤ h) : t.rawBand v = .warnLow := by
  rw [rawBand_of_no_high hcrit hwarn, if_neg (mt any_value_le_iff.1 lcrit), if_pos (any_value_le_iff.2 reached)]

include lwarn

theorem rawBand_normal : t.rawBand v = .normal := by
  rw [rawBand_of_no_high hcrit hwarn, if_neg (mt any_value_le_iff.1 lcrit), if_neg (mt any_value_le_iff.1 lwarn)]

end

/-- R46: a raw band is never UNKNOWN or STALE. -/
theorem rawBand_cases (t : Thresholds) (v : Int) :
    t.rawBand v = .critHigh ∨ t.rawBand v = .warnHigh ∨ t.rawBand v = .critLow ∨ t.rawBand v = .warnLow ∨ t.rawBand v = .normal := by
  unfold Thresholds.rawBand
  split_ifs <;> simp

/-! ## Ranks and retreats (R44, R47) -/

theorem warnHigh_rank_le_iff : Band.warnHigh.highRank ≤ b.highRank ↔ b = .warnHigh ∨ b = .critHigh := by cases b <;> decide

theorem critHigh_rank_le_iff : Band.critHigh.highRank ≤ b.highRank ↔ b = .critHigh := by cases b <;> decide

theorem warnLow_rank_le_iff : Band.warnLow.lowRank ≤ b.lowRank ↔ b = .warnLow ∨ b = .critLow := by cases b <;> decide

theorem critLow_rank_le_iff : Band.critLow.lowRank ≤ b.lowRank ↔ b = .critLow := by cases b <;> decide

/-- R47: a reading is a retreat from WARN_HIGH exactly when its raw band is NORMAL. -/
theorem retreats_warnHigh_iff :
    ¬ (0 < (t.rawBand v).lowRank ∨ Band.warnHigh.highRank ≤ (t.rawBand v).highRank) ↔ t.rawBand v = .normal := by
  obtain h | h | h | h | h := rawBand_cases t v <;> rw [h] <;> decide

/-- R47: from CRIT_HIGH, the less severe band of the same side is a retreat too. -/
theorem retreats_critHigh_iff :
    ¬ (0 < (t.rawBand v).lowRank ∨ Band.critHigh.highRank ≤ (t.rawBand v).highRank) ↔
      t.rawBand v = .normal ∨ t.rawBand v = .warnHigh := by
  obtain h | h | h | h | h := rawBand_cases t v <;> rw [h] <;> decide

/-- R47: a reading is a retreat from WARN_LOW exactly when its raw band is NORMAL. -/
theorem retreats_warnLow_iff :
    ¬ (0 < (t.rawBand v).highRank ∨ Band.warnLow.lowRank ≤ (t.rawBand v).lowRank) ↔ t.rawBand v = .normal := by
  obtain h | h | h | h | h := rawBand_cases t v <;> rw [h] <;> decide

/-- R47: from CRIT_LOW, the less severe band of the same side is a retreat too. -/
theorem retreats_critLow_iff :
    ¬ (0 < (t.rawBand v).highRank ∨ Band.critLow.lowRank ≤ (t.rawBand v).lowRank) ↔
      t.rawBand v = .normal ∨ t.rawBand v = .warnLow := by
  obtain h | h | h | h | h := rawBand_cases t v <;> rw [h] <;> decide

/-! ## The band after a reading (R47, R48) -/

theorem nextBand_of_no_side (h : held = .unknown ∨ held = .stale ∨ held = .normal) : nextBand t hyst held v = t.rawBand v := by
  obtain rfl | rfl | rfl := h <;> rfl

/-- From the high side, with the retreat as the first case. -/
theorem nextBand_of_high (h : held = .warnHigh ∨ held = .critHigh) : nextBand t hyst held v =
    if ¬ (0 < (t.rawBand v).lowRank ∨ held.highRank ≤ (t.rawBand v).highRank) then
      (if held.highRank ≤ (t.rawBand (v + hyst)).highRank then held else t.rawBand (v + hyst))
    else t.rawBand v := by
  rw [ite_not]
  obtain rfl | rfl := h <;> rfl

/-- From the low side, with the retreat as the first case. -/
theorem nextBand_of_low (h : held = .warnLow ∨ held = .critLow) : nextBand t hyst held v =
    if ¬ (0 < (t.rawBand v).highRank ∨ held.lowRank ≤ (t.rawBand v).lowRank) then
      (if held.lowRank ≤ (t.rawBand (v - hyst)).lowRank then held else t.rawBand (v - hyst))
    else t.rawBand v := by
  rw [ite_not]
  obtain rfl | rfl := h <;> rfl

theorem nextBand_warnHigh : nextBand t hyst .warnHigh v =
    if t.rawBand v = .normal then
      (if t.rawBand (v + hyst) = .warnHigh ∨ t.rawBand (v + hyst) = .critHigh then .warnHigh else t.rawBand (v + hyst))
    else t.rawBand v :=
  (nextBand_of_high (.inl rfl)).trans (if_congr retreats_warnHigh_iff (if_congr warnHigh_rank_le_iff rfl rfl) rfl)

/-- No band is more severe than CRIT_HIGH, so the band of the value moved back is taken whether or not the point is held. -/
theorem nextBand_critHigh : nextBand t hyst .critHigh v =
    if t.rawBand v = .normal ∨ t.rawBand v = .warnHigh then t.rawBand (v + hyst) else t.rawBand v :=
  have held_eq := ite_eq_right_iff.2 fun h => (critHigh_rank_le_iff.1 h).symm
  (nextBand_of_high (.inr rfl)).trans (if_congr retreats_critHigh_iff held_eq rfl)

theorem nextBand_warnLow : nextBand t hyst .warnLow v =
    if t.rawBand v = .normal then
      (if t.rawBand (v - hyst) = .warnLow ∨ t.rawBand (v - hyst) = .critLow then .warnLow else t.rawBand (v - hyst))
    else t.rawBand v :=
  (nextBand_of_low (.inl rfl)).trans (if_congr retreats_warnLow_iff (if_congr warnLow_rank_le_iff rfl rfl) rfl)

/-- No band is more severe than CRIT_LOW, so the band of the value moved back is taken whether or not the point is held. -/
theorem nextBand_critLow : nextBand t hyst .critLow v =
    if t.rawBand v = .normal ∨ t.rawBand v = .warnLow then t.rawBand (v - hyst) else t.rawBand v :=
  have held_eq := ite_eq_right_iff.2 fun h => (critLow_rank_le_iff.1 h).symm
  (nextBand_of_low (.inr rfl)).trans (if_congr retreats_critLow_iff held_eq rfl)

/-- Settles O37: the raw band by the first test that holds, then the band after a reading for each held band. -/
theorem bandOfAReading : Obligations.BandOfAReading := by
  intro t hyst v
  exact ⟨rawBand_critHigh, rawBand_warnHigh, rawBand_critLow, rawBand_warnLow, rawBand_normal,
    fun _ => nextBand_of_no_side, nextBand_warnHigh, nextBand_critHigh, nextBand_warnLow, nextBand_critLow⟩

end Sys2Proof.Machine
end

section
/-! The curve step and the slew step of an evaluation (R76, R77). A curve is read by dropping every breakpoint in front of one whose input
the value has reached; what is left starts at its first level, or runs on its first segment. -/

namespace Sys2Proof.Machine

variable {c l r : List Breakpoint} {a b : Breakpoint} {x p d k : Int} {n target slew ceiling : Nat} {o : Option Nat}

/-- R86: the four conditions on a curve. -/
theorem curveValid_iff : curveValid c = true ↔
    2 ≤ c.length ∧ c.length ≤ 8 ∧ c.Pairwise (fun a b => a.input < b.input) ∧ ∀ b ∈ c, b.level ≤ 1000 := by
  simp only [curveValid, Bool.and_eq_true, decide_eq_true_eq, List.all_eq_true, and_assoc]

/-! ## A segment: the truncated share of the step between two levels -/

theorem truncDiv_mul_of_rise (hp : 0 ≤ p) (hpd : p ≤ d) (hd : 0 < d) (hk : 0 ≤ k) : 0 ≤ truncDiv (p * k) d ∧ truncDiv (p * k) d ≤ k := by
  have product_nonneg : 0 ≤ p * k := mul_nonneg hp hk
  have product_le : p * k ≤ k * d := (mul_le_mul_of_nonneg_right hpd hk).trans_eq (mul_comm d k)
  refine ⟨Int.tdiv_nonneg product_nonneg hd.le, ?_⟩
  exact (Int.tdiv_eq_ediv_of_nonneg product_nonneg).trans_le (Int.ediv_le_of_le_mul hd product_le)

theorem truncDiv_mul_neg : truncDiv (p * -k) d = -truncDiv (p * k) d := by
  rw [mul_neg]
  exact Int.neg_tdiv _ _

/-- Truncation toward zero makes a fall the mirror image of a rise. -/
theorem truncDiv_mul_between (hp : 0 ≤ p) (hpd : p ≤ d) (hd : 0 < d) :
    min 0 k ≤ truncDiv (p * k) d ∧ truncDiv (p * k) d ≤ max 0 k := by
  obtain hk | hk := le_total 0 k
  · have rise := truncDiv_mul_of_rise hp hpd hd hk
    omega
  · have fall := truncDiv_mul_of_rise hp hpd hd (neg_nonneg.2 hk)
    rw [truncDiv_mul_neg] at fall
    omega

section
variable (ha : a.input ≤ x) (hb : x < b.input)
include ha hb

/-- The share lies between the levels, so the model's `toNat` loses nothing. -/
theorem onSegment_spec :
    (onSegment a b x : Int) = a.level + truncDiv ((x - a.input) * ((b.level : Int) - a.level)) (b.input - a.input) ∧
      min a.level b.level ≤ onSegment a b x ∧ onSegment a b x ≤ max a.level b.level := by
  have share := truncDiv_mul_between (p := x - a.input) (k := (b.level : Int) - a.level) (d := b.input - a.input)
    (by omega) (by omega) (by omega)
  unfold onSegment
  omega

end

/-- A segment starts at its first breakpoint's level. -/
theorem onSegment_input : onSegment a b a.input = a.level := by
  simp [onSegment, truncDiv]

/-! ## The curve step (R76) -/

theorem curveTarget_of_le_head (h : x ≤ a.input) : curveTarget (a :: r) x = a.level := by
  cases r with
  | nil => rfl
  | cons b r => exact if_pos h

/-- Past the first breakpoint and before the second, the curve is its first segment; at the first breakpoint both give its level. -/
theorem curveTarget_on_segment (ha : a.input ≤ x) (hb : x < b.input) : curveTarget (a :: b :: r) x = onSegment a b x := by
  obtain rfl | past := ha.eq_or_lt
  · rw [curveTarget_of_le_head le_rfl, onSegment_input]
  · exact (if_neg past.not_ge).trans (if_pos hb)

theorem curveTarget_past_segment (hab : a.input < b.input) (hb : b.input ≤ x) : curveTarget (a :: b :: r) x = curveTarget (b :: r) x :=
  (if_neg (hab.trans_le hb).not_ge).trans (if_neg hb.not_gt)

/-- The breakpoints in front of one that the value has reached do not count. -/
theorem curveTarget_append (ascending : (l ++ a :: r).Pairwise (fun a b => a.input < b.input)) (h : a.input ≤ x) :
    curveTarget (l ++ a :: r) x = curveTarget (a :: r) x := by
  induction l with
  | nil => rfl
  | cons e l ih =>
    obtain ⟨e_below, ascending⟩ := List.pairwise_cons.1 ascending
    rw [← ih ascending]
    cases l with
    | nil => exact curveTarget_past_segment (e_below a (by simp)) h
    | cons f l =>
      have f_below : f.input < a.input := (List.pairwise_cons.1 ascending).1 a (by simp)
      exact curveTarget_past_segment (e_below f (by simp)) (f_below.le.trans h)

/-- A bound on the levels bounds the target, whatever the inputs. -/
theorem curveTarget_le (nonempty : c ≠ []) (bound : ∀ b ∈ c, b.level ≤ n) : curveTarget c x ≤ n := by
  fun_induction curveTarget c x with
  | case1 => exact absurd rfl nonempty
  | case2 | case3 => exact bound _ (by simp)
  | case4 a b r x ha hb =>
    have between := (onSegment_spec (not_le.1 ha).le hb).2.2
    exact between.trans (max_le (bound a (by simp)) (bound b (by simp)))
  | case5 a b r x ha hb ih => exact ih (by simp) fun e he => bound e (List.mem_cons_of_mem a he)

/-! ## The slew step (R77) -/

theorem slewOutput_none : slewOutput none target slew ceiling = min target ceiling := rfl

theorem slewOutput_some (o : Nat) : slewOutput (some o) target slew ceiling =
    min ceiling (if o + slew < min target ceiling then o + slew else if min target ceiling + slew < o then o - slew
      else min target ceiling) :=
  min_comm _ _

theorem slewOutput_le_ceiling : slewOutput o target slew ceiling ≤ ceiling := by
  cases o with
  | none => exact min_le_right _ _
  | some o => exact min_le_right _ _

/-- Settles O45: each clause on the curve drops the breakpoints before the one it speaks of. -/
theorem curveAndSlew : Obligations.CurveAndSlew := by
  refine ⟨fun c x valid => ?_, fun target slew ceiling => ⟨slewOutput_none, slewOutput_some, fun o => slewOutput_le_ceiling⟩⟩
  obtain ⟨two_le, -, ascending, levels⟩ := curveValid_iff.1 valid
  refine ⟨?upToFirst, ?fromLast, ?between, ?atBreakpoint, curveTarget_le (List.ne_nil_of_length_pos (by omega)) levels⟩
  case upToFirst =>
    intro a first h
    obtain ⟨r, rfl⟩ := List.head?_eq_some_iff.1 first
    exact curveTarget_of_le_head h
  case fromLast =>
    intro a last h
    obtain ⟨l, rfl⟩ := List.getLast?_eq_some_iff.1 last
    exact curveTarget_append ascending h
  case between =>
    rintro l r a b rfl ha hb
    rw [curveTarget_append ascending ha, curveTarget_on_segment ha hb]
    exact onSegment_spec ha hb
  case atBreakpoint =>
    rintro a ha rfl
    obtain ⟨l, r, rfl⟩ := List.append_of_mem ha
    rw [curveTarget_append ascending le_rfl, curveTarget_of_le_head le_rfl]

end Sys2Proof.Machine
end

section
/-! The Request Unit's checks (R147, R148, R150, R151): every command that takes a request serves the head of the FIFO under an owner of its
own, and the discards, the cached replies and the refusals for form and authority are decided before that owner is asked. -/

namespace Sys2Proof.Machine
open Sys2Proof.Claims

variable {q : Request} {rest : List Request} {s : State} {i : Instr} {c : RequestCode} {n : Nat} {m b : Byte} {e : Entry}

/-! ## The code a request names (R150, section 11.5) -/

theorem byte_of_requestCode? (h : requestCode? b = some c) : c.byte = b := by
  simpa using List.find?_some h

theorem Request.code?_eq_some_iff : q.code? = some c ↔ q.payload.head? = some c.byte := by
  refine ⟨fun h => ?_, Request.code?_of_head⟩
  unfold Request.code? at h
  split at h
  next => cases h
  next hp => rw [hp, byte_of_requestCode? h, List.head?_cons]

/-- A request names no code when its payload begins with none of the defined code bytes. -/
theorem Request.code?_eq_none_iff : q.code? = none ↔ ∀ c : RequestCode, q.payload.head? ≠ some c.byte := by
  simp only [Option.eq_none_iff_forall_ne_some, ne_eq, Request.code?_eq_some_iff]

/-- R150: the model admits the lengths of the table. WRITE_REGULATOR and WRITE_CURVE admit a range, which the table counts in inputs and
breakpoints. -/
theorem RequestCode.admits_iff : c.admits n = true ↔ Admitted c n := by
  cases c
  case writeRegulator =>
    simp only [RequestCode.admits, Admitted, Bool.and_eq_true, decide_eq_true_eq]
    exact ⟨fun _ => ⟨n - 19, by omega⟩, fun ⟨_, _⟩ => by omega⟩
  case writeCurve =>
    simp only [RequestCode.admits, Admitted, Bool.and_eq_true, decide_eq_true_eq]
    exact ⟨fun _ => ⟨(n - 2) / 4, by omega⟩, fun ⟨_, _⟩ => by omega⟩
  all_goals exact decide_eq_true_iff

theorem Request.formatOk_of_unnamed (h : ∀ c : RequestCode, q.payload.head? ≠ some c.byte) : q.formatOk = false := by
  unfold Request.formatOk; rw [Request.code?_eq_none_iff.2 h]

theorem Request.formatOk_iff (h : q.payload.head? = some c.byte) : q.formatOk = true ↔ Admitted c q.payload.length := by
  unfold Request.formatOk; rw [Request.code?_of_head h]; exact RequestCode.admits_iff

/-! ## Authority (R151) -/

theorem RequestCode.openToAll_iff : c.openToAll = true ↔
    c ∈ [.identify, .readStatus, .readPoint, .findPoint, .readRegulator, .readActuator, .readCounters, .bind, .unbind] := by
  cases c <;> decide

/-- While a manager is bound, a request of another node that is not open to all has no authority. -/
theorem authorised_of_stranger (hcode : q.code? = some c) (hclosed : c.openToAll = false) (hsrc : q.src ≠ m) :
    authorised (some m) q = false := by
  simp [authorised, hcode, hclosed, hsrc]

/-! ## Taking the request at the head (R146) -/

/-- With no request in execution, the command of a code takes the requests of that code. -/
theorem exec_commandOf (c : RequestCode) (idle : s.ru.execution = none) :
    ∃ owner, exec (commandOf c) s = .next (takeRequest (hasCode c) owner s) := by
  cases c
  case readStatus =>
    obtain ⟨x, hx, -⟩ | ⟨-, h⟩ := execReadStatus_cases s
    · cases idle.symm.trans hx
    · exact ⟨_, h⟩
  all_goals exact ⟨_, rfl⟩

/-- The command that takes a request accepts it. -/
theorem exec_of_takes (ht : Takes i q) (idle : s.ru.execution = none) :
    ∃ accepts owner, accepts q = true ∧ exec i s = .next (takeRequest accepts owner s) := by
  obtain ⟨c, rfl, hc⟩ | ⟨rfl, hnone⟩ := ht
  · obtain ⟨owner, ho⟩ := exec_commandOf c idle
    exact ⟨_, owner, by simp [hasCode, Request.code?_of_head hc], ho⟩
  · exact ⟨fun q => q.code?.isNone, ownMalformed, by simp [Request.code?_eq_none_iff.2 hnone], rfl⟩

/-- R146: the command that takes the request at the head serves it. -/
theorem exec_serves (h : AtHead q rest s) (ht : Takes i q) : ∃ owner, exec i s = .next (serve owner q (s.dequeued rest)) := by
  obtain ⟨accepts, owner, ha, ho⟩ := exec_of_takes ht h.idle
  exact ⟨owner, by rw [ho, takeRequest_takes accepts owner h.fifo h.slot h.ready h.idle ha]⟩

/-! ## Refusals of a new request (R150, R151) -/

theorem exec_serves_new (hq : NewRequest q rest s) (ht : Takes i q) :
    ∃ owner, exec i s = .next (serveNew owner q (s.dequeued rest)) := by
  obtain ⟨owner, ho⟩ := exec_serves hq.toAtHead ht
  have hsrc : srcUsable q.src = true := nodeValid_of_range hq.src.1 hq.src.2
  have hnew : (s.dequeued rest).ru.find q.ref = none := find_none hq.unseen
  exact ⟨owner, by rw [ho, serve_new owner hsrc hnew]⟩

theorem exec_badRequest (hq : NewRequest q rest s) (ht : Takes i q) (form : q.formatOk = false) :
    exec i s = .next (refusedWith q .badRequest (taken rest s)) := by
  obtain ⟨owner, ho⟩ := exec_serves_new hq ht
  rw [ho, serveNew_malformed owner form, dequeued_makeRoom, finish_refuse (by decide)]

theorem exec_notManager (hq : NewRequest q rest s) (ht : Takes i q) (form : q.formatOk = true)
    (noAuthority : authorised s.ru.manager q = false) : exec i s = .next (refusedWith q .notManager (taken rest s)) := by
  obtain ⟨owner, ho⟩ := exec_serves_new hq ht
  rw [ho, serveNew_unauthorised (s := s.dequeued rest) owner form noAuthority, dequeued_makeRoom, finish_refuse (by decide)]

/-- Settles O31: the format check fails for a request that names no code or has a length its code does not admit, and the authority check
follows it. -/
theorem badAndUnauthorisedRequests : Obligations.BadAndUnauthorisedRequests := by
  intro q rest s hq
  have unnamed (h : ∀ c : RequestCode, q.payload.head? ≠ some c.byte) :
      exec .malformedRequest s = .next (refusedWith q .badRequest (taken rest s)) :=
    exec_badRequest hq (.inr ⟨rfl, h⟩) (Request.formatOk_of_unnamed h)
  refine ⟨?empty, ?undefined, ?length, ?authority⟩
  case empty =>
    intro hempty
    exact unnamed fun c hc => by simp [hempty] at hc
  case undefined =>
    intro b hb hundefined
    exact unnamed fun c hc => hundefined c (Option.some.inj (hc.symm.trans hb))
  case length =>
    intro c hc hlength
    exact exec_badRequest hq (.inl ⟨c, rfl, hc⟩) (Bool.eq_false_iff.2 (mt (Request.formatOk_iff hc).1 hlength))
  case authority =>
    intro c m hc hlength hmanager hsrc hclosed
    have noAuthority : authorised s.ru.manager q = false := by
      rw [hmanager]
      exact authorised_of_stranger (Request.code?_of_head hc) (Bool.eq_false_iff.2 (mt RequestCode.openToAll_iff.1 hclosed)) hsrc
    exact exec_notManager hq (.inl ⟨c, rfl, hc⟩) ((Request.formatOk_iff hc).2 hlength) noAuthority

/-! ## Requests that are not executed (R147, R148) -/

/-- R148: under distinct pairs the look-up finds the one entry that carries the pair. -/
theorem find_of_nodup {u : RequestUnit} {ref : EntryRef} (distinct : (u.recent.map (·.ref)).Nodup) (he : e ∈ u.recent)
    (href : e.ref = ref) : u.find ref = some e := by
  subst href
  unfold RequestUnit.find
  cases hf : u.recent.find? (fun e' => e'.ref = e.ref) with
  | none => exact absurd (decide_eq_true rfl) (List.find?_eq_none.1 hf e he)
  | some e' =>
    have same_pair : e'.ref = e.ref := by simpa using List.find?_some hf
    exact congrArg some (List.inj_on_of_nodup_map distinct (List.mem_of_find?_eq_some hf) he same_pair)

/-- Settles O32: the src is checked first, then the one entry that carries the pair decides. -/
theorem discardedAndResentRequests : Obligations.DiscardedAndResentRequests := by
  intro i q rest s h ht
  obtain ⟨owner, ho⟩ := exec_serves h ht
  refine ⟨fun hsrc => ?unusable, fun e hlow hhigh distinct he href => ?repeated⟩
  case unusable =>
    rw [ho, serve_unusable owner (nodeValid_eq_false hsrc)]
    rfl
  case repeated =>
    have hsrc : srcUsable q.src = true := nodeValid_of_range hlow hhigh
    have hfind : (s.dequeued rest).ru.find q.ref = some e := find_of_nodup (u := (s.dequeued rest).ru) distinct he href
    obtain ⟨ref, status⟩ := e
    refine ⟨?done, ?pending⟩
    case done =>
      rintro r rfl
      rw [ho, serve_cached owner hsrc hfind, place_empty (u := (s.dequeued rest).ru) h.slot h.ready]
      rfl
    case pending =>
      rintro rfl
      rw [ho, serve_pending owner hsrc hfind]
      rfl

end Sys2Proof.Machine
end

section
/-! The declarations below are elaborated one after another: each further thread of the elaborator reserves a gigabyte for its stack, which
the check's limit on reserved memory counts. -/

set_option Elab.async false

section
/-! What each command may change of the settings of the part (O16), of the Note Queue and of the sweep: one relation between the states
before and after, walked once through every operation, with the set of what the command owns as its parameter. -/

namespace Sys2Proof.Machine
open Sys2Proof.Claims

/-! ## Notes settled and conditions told -/

/-- `v` comes from `u` by settling raised notes (R165, R166) and by words to the alert record (R175). -/
inductive Settling (u : NoteUnit) : NoteUnit → Prop
  | refl : Settling u u
  | settle {v : NoteUnit} (n : Note) : Settling u v → Settling u (v.settle n).1
  | tell {v : NoteUnit} (a : AlertRecord) : Settling u v → Settling u { v with alert := a }

theorem Settling.trans {u v w : NoteUnit} (h : Settling u v) (h' : Settling v w) : Settling u w := by
  induction h' with
  | refl => exact h
  | settle n _ ih => exact ih.settle n
  | tell a _ ih => exact ih.tell a

/-- What settling any note and telling any condition keep is kept. -/
theorem Settling.keeps {u v : NoteUnit} (h : Settling u v) (P : NoteUnit → Prop) (settle : ∀ n w, P w → P (w.settle n).1)
    (tell : ∀ a w, P w → P { w with alert := a }) (hu : P u) : P v := by
  induction h with
  | refl => exact hu
  | settle n _ ih => exact settle n _ ih
  | tell a _ ih => exact tell a _ ih

theorem raiseCounterNotes_settling (c : EventClass) (now : Time) (l : List (Fin 4)) (u : NoteUnit) :
    Settling u (raiseCounterNotes c now l u).1 :=
  raiseCounterNotes_keeps (Settling u) (fun n _ h => h.settle n) c now l .refl

/-! ## What a command may change -/

/-- What some command changes alone: the settings of O16, the sweep in progress, and the Note Queue but for raised notes. -/
inductive Holding
  | timebase | budget | manager | holdTime | points | regulators | curves | channels | counters | sweep | notes
  deriving DecidableEq

/-- Counting never changes what a counter is set to. -/
def Counter.sameSetting (k l : Counter) : Prop :=
  l.selector = k.selector ∧ l.noteOnOverflow = k.noteOnOverflow ∧ l.freezeOnOverflow = k.freezeOnOverflow

/-- From `s` to `t` nothing that is not in `owned` has changed; the straps and the queue of commands never do. -/
structure Work (owned : List Holding) (s t : State) : Prop where
  pending : t.pending = s.pending
  straps : t.ci.straps = s.ci.straps
  timebase : .timebase ∉ owned → t.timebase = s.timebase
  budget : .budget ∉ owned → t.ci.hopBudget = s.ci.hopBudget
  manager : .manager ∉ owned → t.ru.manager = s.ru.manager
  holdTime : .holdTime ∉ owned → t.om.holdTime = s.om.holdTime
  points : .points ∉ owned → ∀ i, (t.point i).map (·.config) = (s.point i).map (·.config)
  regulators : .regulators ∉ owned → ∀ r, (t.reg r).config = (s.reg r).config
  curves : .curves ∉ owned → ∀ r, (t.reg r).curve = (s.reg r).curve
  channels : .channels ∉ owned → ∀ c, (t.chan c).config = (s.chan c).config
  counters : .counters ∉ owned → ∀ k : Fin 4, s.counters.counter[k].sameSetting t.counters.counter[k]
  sweep : .sweep ∉ owned → t.sweep = s.sweep
  notes : .notes ∉ owned → Settling s.nu t.nu

variable {owned : List Holding} {s t : State}

protected theorem Work.refl (s : State) : Work owned s s where
  pending := rfl
  straps := rfl
  timebase _ := rfl
  budget _ := rfl
  manager _ := rfl
  holdTime _ := rfl
  points _ _ := rfl
  regulators _ _ := rfl
  curves _ _ := rfl
  channels _ _ := rfl
  counters _ _ := ⟨rfl, rfl, rfl⟩
  sweep _ := rfl
  notes _ := .refl

/-! ## Writes to the blocks -/

protected theorem Work.withTurns (h : Work owned s t) (x : List Turn) : Work owned s (t.withTurns x) := { h with }

protected theorem Work.withTimebase (h : Work owned s t) {x : Time} (hx : .timebase ∉ owned → x = t.timebase) :
    Work owned s (t.withTimebase x) := { h with timebase := fun n => (hx n).trans (h.timebase n) }

protected theorem Work.withCi (h : Work owned s t) {x : ChainInterface} (hs : x.straps = t.ci.straps)
    (hb : .budget ∉ owned → x.hopBudget = t.ci.hopBudget) : Work owned s (t.withCi x) :=
  { h with straps := hs.trans h.straps, budget := fun n => (hb n).trans (h.budget n) }

protected theorem Work.withRu (h : Work owned s t) {x : RequestUnit} (hm : .manager ∉ owned → x.manager = t.ru.manager) :
    Work owned s (t.withRu x) := { h with manager := fun n => (hm n).trans (h.manager n) }

protected theorem Work.withOm (h : Work owned s t) {x : OverrideMonitor} (hx : .holdTime ∉ owned → x.holdTime = t.om.holdTime) :
    Work owned s (t.withOm x) := { h with holdTime := fun n => (hx n).trans (h.holdTime n) }

protected theorem Work.withSweep (h : Work owned s t) {x : Option Sweep} (hx : .sweep ∉ owned → x = t.sweep) :
    Work owned s (t.withSweep x) := { h with sweep := fun n => (hx n).trans (h.sweep n) }

protected theorem Work.withCounters (h : Work owned s t) {x : TrafficCounters}
    (hx : .counters ∉ owned → ∀ k : Fin 4, t.counters.counter[k].sameSetting x.counter[k]) : Work owned s (t.withCounters x) := by
  refine { h with counters := fun n k => ?_ }
  obtain ⟨hsel, hnote, hfreeze⟩ := h.counters n k
  obtain ⟨hsel', hnote', hfreeze'⟩ := hx n k
  exact ⟨hsel'.trans hsel, hnote'.trans hnote, hfreeze'.trans hfreeze⟩

protected theorem Work.withNu (h : Work owned s t) {x : NoteUnit} (hx : .notes ∉ owned → Settling t.nu x) : Work owned s (t.withNu x) :=
  { h with notes := fun n => (h.notes n).trans (hx n) }

protected theorem Work.setSup (h : Work owned s t) (r : Fin 32) (x : Supervisor) : Work owned s (t.setSup r x) := { h with }

protected theorem Work.setPoint (h : Work owned s t) {i : Fin 256} {x : Option Point}
    (hx : .points ∉ owned → x.map (·.config) = (t.point i).map (·.config)) : Work owned s (t.setPoint i x) := by
  refine { h with points := fun n j => ?_ }
  rw [State.setPoint_read]
  split
  · next e => rw [hx n, e, h.points n]
  · exact h.points n j

protected theorem Work.setReg (h : Work owned s t) {r : Fin 32} {x : Regulator}
    (hc : .regulators ∉ owned → x.config = (t.reg r).config) (hv : .curves ∉ owned → x.curve = (t.reg r).curve) :
    Work owned s (t.setReg r x) :=
  { h with
    regulators := fun n q => (setReg_config t (hc n) q).trans (h.regulators n q)
    curves := fun n q => (setReg_curve t (hv n) q).trans (h.curves n q) }

/-- A regulator's record is written with its configuration and its curve as they were. -/
theorem Work.moveReg (h : Work owned s t) {r : Fin 32} {x : Regulator} (hc : x.config = (t.reg r).config) (hv : x.curve = (t.reg r).curve) :
    Work owned s (t.setReg r x) := h.setReg (fun _ => hc) (fun _ => hv)

protected theorem Work.setChan (h : Work owned s t) {c : Fin 16} {x : Channel}
    (hx : .channels ∉ owned → x.config = (t.chan c).config) : Work owned s (t.setChan c x) := by
  refine { h with channels := fun n d => ?_ }
  rw [State.setChan_read]
  split
  · next e => rw [hx n, e, h.channels n]
  · exact h.channels n d

/-- A channel's record is written with its configuration as it was. -/
theorem Work.moveChan (h : Work owned s t) {c : Fin 16} {x : Channel} (hx : x.config = (t.chan c).config) :
    Work owned s (t.setChan c x) := h.setChan fun _ => hx

/-! ## Events, notes and words to the alert record -/

theorem count_sameSetting (c : EventClass) (x : TrafficCounters) (k : Fin 4) : x.counter[k].sameSetting (x.count c).counter[k] := by
  unfold TrafficCounters.count
  split
  · exact ⟨rfl, rfl, rfl⟩
  · simp only [Fin.getElem_fin, Vector.getElem_map, Counter.count]
    split <;> exact ⟨rfl, rfl, rfl⟩

protected theorem Work.signal {c : EventClass} (h : Work owned s t) : Work owned s (signal c t) :=
  signalTo_keeps (Work owned s)
    (fun _ _ h => (h.withCounters fun _ => count_sameSetting _ _).withNu fun _ => raiseCounterNotes_settling _ _ _ _) _ c h

protected theorem Work.signalTimes {c : EventClass} {n : Nat} (h : Work owned s t) : Work owned s (signalTimes c n t) :=
  repeat_keeps (signal c) (Work owned s) (fun _ h => h.signal) n h

protected theorem Work.raise {kind : NoteKind} {subject : Option Nat} {value : Int} {severity : Severity} (h : Work owned s t) :
    Work owned s (raise kind subject value severity t) := by
  have settled := h.withNu (x := (t.nu.settle ⟨kind, subject, value, severity, t.timebase⟩).1) fun _ => .settle _ .refl
  unfold Machine.raise
  dsimp only
  split
  · exact settled.signal
  · exact settled

theorem Work.tell (h : Work owned s t) (a : AlertRecord) : Work owned s (t.withNu { t.nu with alert := a }) :=
  h.withNu fun _ => .tell _ .refl

protected theorem Work.tellOverride {b : Bool} (h : Work owned s t) : Work owned s (tellOverride b t) := h.tell _
protected theorem Work.tellFaulted {c : Fin 16} {b : Bool} (h : Work owned s t) : Work owned s (tellFaulted c b t) := h.tell _
protected theorem Work.tellStalled {r : Fin 32} {b : Bool} (h : Work owned s t) : Work owned s (tellStalled r b t) := h.tell _

/-- What one claim for a regulator leaves, all 32 leave. -/
theorem Work.forEach (h : Work owned s t) {f : Fin 32 → State → State} (one : ∀ r {u}, Work owned s u → Work owned s (f r u)) :
    Work owned s (forEachRegulator f t) := forEachRegulator_keeps f _ (fun r _ => one r) h

/-! ## Channels, regulators and replies -/

protected theorem Work.writeDesired {c : Fin 16} {l : Nat} (h : Work owned s t) : Work owned s (writeDesired c l t) :=
  h.moveChan (Channel.writeDesired_config l _)

@[simp] theorem place_manager (u : RequestUnit) (r : Reply) : (u.place r).manager = u.manager := by
  unfold RequestUnit.place; split <;> rfl

protected theorem Work.formReply {r : Reply} (h : Work owned s t) : Work owned s (formReply r t) := by
  have placed : Work owned s (t.withRu (t.ru.place r)) := h.withRu fun _ => place_manager _ _
  unfold Machine.formReply
  dsimp only
  split
  · exact placed
  · exact placed.signal

protected theorem Work.completeEntry {ref : EntryRef} {code : RequestCode} {status : Status} {data : List Byte} (h : Work owned s t) :
    Work owned s (completeEntry ref code status data t) :=
  Work.formReply (h.withRu fun _ => rfl)

protected theorem Work.startPeriod {r : Fin 32} (h : Work owned s t) : Work owned s (startPeriod r t) := h.moveReg rfl rfl

protected theorem Work.evaluate {notes : Bool} {r : Fin 32} (h : Work owned s t) : Work owned s (evaluate notes r t) := by
  unfold Machine.evaluate evaluateStale evaluateFresh raiseRegState
  dsimp only
  split
  all_goals
    refine Work.writeDesired ?_
    split
    · exact Work.raise (h.moveReg rfl rfl)
    · exact h.moveReg rfl rfl

protected theorem Work.assertCeiling {r : Fin 32} (h : Work owned s t) : Work owned s (assertCeiling r t) :=
  Work.writeDesired (h.moveReg rfl rfl)

protected theorem Work.entryNotice {r : Fin 32} (h : Work owned s t) : Work owned s (entryNotice r t) := by
  unfold Machine.entryNotice; dsimp only; split
  · exact h.assertCeiling
  · exact h

protected theorem Work.clearingNotice {r : Fin 32} (h : Work owned s t) : Work owned s (clearingNotice r t) := by
  unfold Machine.clearingNotice; split
  · exact h.evaluate
  · exact h

protected theorem Work.resumeControl {r : Fin 32} (h : Work owned s t) : Work owned s (resumeControl r t) := by
  unfold Machine.resumeControl; split
  · exact h.assertCeiling
  · exact h.evaluate

protected theorem Work.writeManual {r : Fin 32} (h : Work owned s t) : Work owned s (writeManual r t) := by
  unfold Machine.writeManual; split
  · exact h
  · exact h.writeDesired

protected theorem Work.completeHandover {r : Fin 32} {faulted : Bool} (h : Work owned s t) :
    Work owned s (completeHandover r faulted t) := by
  have written : Work owned s (writeManual r (t.setReg r { t.reg r with state := .manual, handover := none })) :=
    Work.writeManual (h.moveReg rfl rfl)
  unfold Machine.completeHandover; dsimp only; split
  · exact written
  · exact written.completeEntry

protected theorem Work.reportEntry {c : Fin 16} {faulted : Bool} (h : Work owned s t) : Work owned s (reportEntry c faulted t) := by
  unfold Machine.reportEntry; (repeat' split)
  · exact h
  · exact h.completeHandover
  · exact h

protected theorem Work.cancelHandover {r : Fin 32} (h : Work owned s t) : Work owned s (cancelHandover r t) := by
  unfold Machine.cancelHandover; (repeat' split)
  · exact h
  · exact h.completeEntry
  · exact h

/-! ## The Override Monitor and the supervisors -/

protected theorem Work.overrideEntry {p : Fin 256} (h : Work owned s t) : Work owned s (overrideEntry p t) := by
  unfold Machine.overrideEntry
  refine Work.forEach (Work.raise (Work.tellOverride ?_)) fun _ _ hu => hu.entryNotice
  exact h.withOm fun _ => rfl

protected theorem Work.overrideClearing (h : Work owned s t) : Work owned s (overrideClearing t) := by
  unfold Machine.overrideClearing
  refine Work.forEach (Work.raise (Work.tellOverride ?_)) fun _ _ hu => hu.clearingNotice
  exact h.withOm fun _ => rfl

protected theorem Work.joinCritical {p : Fin 256} (h : Work owned s t) : Work owned s (joinCritical p t) := by
  have joined : Work owned s (t.withOm { t.om with critical := insertIndex p t.om.critical }) := h.withOm fun _ => rfl
  have again : Work owned s (overrideReentry (t.withOm { t.om with critical := insertIndex p t.om.critical })) :=
    Work.tellOverride (joined.withOm fun _ => rfl)
  unfold Machine.joinCritical; dsimp only; (repeat' split)
  · exact h
  · exact joined.overrideEntry
  · exact again
  · exact again
  · exact joined

protected theorem Work.leaveCritical {p : Fin 256} (h : Work owned s t) : Work owned s (leaveCritical p t) := by
  have left : Work owned s (t.withOm { t.om with critical := removeIndex p t.om.critical }) := h.withOm fun _ => rfl
  unfold Machine.leaveCritical; dsimp only; (repeat' split)
  · exact Work.tellOverride (left.withOm fun _ => rfl)
  · exact left.overrideClearing
  · exact left
  · exact h

protected theorem Work.reportBand {p : Fin 256} {b : Band} (h : Work owned s t) : Work owned s (reportBand p b t) := by
  unfold Machine.reportBand; split
  · exact h.joinCritical
  · exact h.leaveCritical

protected theorem Work.startWindow {r : Fin 32} (h : Work owned s t) : Work owned s (startWindow r t) := by
  unfold Machine.startWindow; dsimp only; split
  · exact h.setSup _ _
  · exact h

protected theorem Work.armSupervisor {r : Fin 32} (h : Work owned s t) : Work owned s (armSupervisor r t) := by
  unfold Machine.armSupervisor; split
  · exact h.startWindow
  · exact h

protected theorem Work.ackedChanged {c : Fin 16} {old : Option Nat} (h : Work owned s t) : Work owned s (ackedChanged c old t) := by
  unfold Machine.ackedChanged; (repeat' split)
  · exact h
  · exact h.armSupervisor
  · exact h.setSup _ _
  all_goals exact h

protected theorem Work.feedbackReading {p : Fin 256} {f : Int} {r : Fin 32} (h : Work owned s t) :
    Work owned s (feedbackReading p f r t) := by
  unfold Machine.feedbackReading clearStall; dsimp only; (repeat' split)
  · exact Work.raise (Work.tellStalled (Work.setSup (h.setSup _ _) _ _))
  · exact h.setSup _ _
  · exact h.startWindow
  all_goals exact h

protected theorem Work.handFeedback {p : Fin 256} {f : Int} (h : Work owned s t) : Work owned s (handFeedback p f t) :=
  h.forEach fun _ _ hu => hu.feedbackReading

protected theorem Work.handStaleness {p : Fin 256} (h : Work owned s t) : Work owned s (handStaleness p t) :=
  h.forEach fun r u hu => by
    unfold feedbackWentStale; dsimp only; split
    · exact hu.startWindow
    · exact hu

protected theorem Work.resetSupervisor {r : Fin 32} (h : Work owned s t) : Work owned s (resetSupervisor r t) := (h.setSup _ _).tellStalled

protected theorem Work.enableSupervisor {r : Fin 32} (h : Work owned s t) : Work owned s (enableSupervisor r t) := by
  unfold Machine.enableSupervisor; split
  · exact h.armSupervisor
  · exact h

/-! ## Channel events (chapter 6) -/

@[simp] theorem Channel.enterFault_config (k : Channel) (x : Option Time) : (k.enterFault x).config = k.config := rfl

protected theorem Work.enterFault {c : Fin 16} {cause : Nat} (h : Work owned s t) : Work owned s (enterFault c cause t) :=
  ((h.moveChan (Channel.enterFault_config _ _)).raise.tellFaulted).reportEntry

protected theorem Work.returnToFault {c : Fin 16} (h : Work owned s t) : Work owned s (returnToFault c t) :=
  (h.moveChan (Channel.enterFault_config _ _)).reportEntry

/-- The send check writes a channel's record and keeps its configuration. -/
theorem Work.sendChecked (h : Work owned s t) (c : Fin 16) : Work owned s (t.setChan c (t.chan c).sendCheck) :=
  h.moveChan (Channel.sendCheck_config _)

protected theorem Work.ackOk {c : Fin 16} {applied : Nat} (h : Work owned s t) : Work owned s (ackOk c applied t) := by
  have idle : Work owned s (ackedChanged c (t.chan c).acked (t.setChan c ((t.chan c).acknowledge applied))) :=
    Work.ackedChanged (h.moveChan rfl)
  unfold Machine.ackOk
  dsimp only
  split <;> split
  · exact ((idle.raise.tellFaulted).sendChecked c).reportEntry
  · exact (idle.sendChecked c).reportEntry
  · exact idle.raise.tellFaulted.reportEntry
  · exact idle.reportEntry

protected theorem Work.ackReject {c : Fin 16} (h : Work owned s t) : Work owned s (ackReject c t) := by
  unfold Machine.ackReject; dsimp only; (repeat' split)
  · exact h.enterFault
  · exact h.moveChan (Channel.enterFault_config _ _)
  · exact h.returnToFault

protected theorem Work.takeAck {src seq : Byte} {payload : List Byte} (h : Work owned s t) : Work owned s (takeAck src seq payload t) := by
  unfold Machine.takeAck; (repeat' split)
  · exact h.signal
  · exact h.signal
  · exact h.ackOk
  · exact h.ackReject
  · exact h.signal

/-- Settling a channel in IDLE leaves what writing its record leaves. -/
protected theorem Work.settleIdleChannel {c : Fin 16} {before after : Channel} (h : Work owned s (t.setChan c after)) :
    Work owned s (settleIdleChannel c before after t) := by
  have told : Work owned s (ackedChanged c before.acked (t.setChan c after)) := h.ackedChanged
  unfold Machine.settleIdleChannel
  dsimp only
  split <;> split
  · exact (told.tellFaulted.sendChecked c).reportEntry
  · exact (told.sendChecked c).reportEntry
  · exact told.tellFaulted.sendChecked c
  · exact told.sendChecked c

protected theorem Work.setDone {c : Fin 16} (h : Work owned s t) : Work owned s (setDone c t) := by
  unfold Machine.setDone; dsimp only; split
  · exact h.signal.moveChan rfl
  · exact h.signal

protected theorem Work.ackExpiry {c : Fin 16} (h : Work owned s t) : Work owned s (ackExpiry c t) := by
  unfold Machine.ackExpiry; dsimp only; (repeat' split)
  · exact h.returnToFault
  · exact Work.signal (h.moveChan rfl)
  · exact h.enterFault
  · exact h

protected theorem Work.probeExpiry {c : Fin 16} (h : Work owned s t) : Work owned s (probeExpiry c t) := by
  unfold Machine.probeExpiry; dsimp only; split
  · exact h.moveChan rfl
  · exact h

/-! ## Points (chapters 2 and 3) -/

/-- A point's record is written with its configuration as it was. -/
theorem Work.movePoint (h : Work owned s t) {i : Fin 256} {p q : Point} (hp : t.point i = some p) (hq : q.config = p.config) :
    Work owned s (t.setPoint i (some q)) := h.setPoint fun _ => by simp [hp, hq]

protected theorem Work.handBandOn {i : Fin 256} {cfg : PointConfig} {old new : Band} {f : Int} (h : Work owned s t) :
    Work owned s (handBandOn i cfg old new f t) := by
  unfold Machine.handBandOn
  dsimp only
  split <;> split
  · exact h.raise.reportBand.handFeedback
  · exact h.reportBand.handFeedback
  · exact h.raise.handFeedback
  · exact h.handFeedback

theorem handBandOn_point (i j : Fin 256) (cfg : PointConfig) (old new : Band) (f : Int) (s : State) :
    (handBandOn i cfg old new f s).point j = s.point j := by
  unfold handBandOn; dsimp only; (repeat' split) <;> simp

protected theorem Work.acceptReading {i : Fin 256} {p : Point} {raw : Int} (h : Work owned s t) (hp : t.point i = some p) :
    Work owned s (acceptReading i p raw t).1 := by
  have decided {m d : Point} {old new : Band} {f : Int} (hm : m.config = p.config) (hd : d.config = m.config) :
      Work owned s ((handBandOn i p.config old new f (t.setPoint i (some m))).setPoint i (some d)) :=
    Work.movePoint (Work.handBandOn (h.movePoint hp hm)) (by rw [handBandOn_point, State.setPoint_self]) hd
  unfold Machine.acceptReading
  dsimp only
  split <;> split
  · exact Work.raise (decided rfl rfl)
  · exact decided rfl rfl
  · exact Work.signal (Work.raise (decided rfl rfl))
  · exact Work.signal (decided rfl rfl)

protected theorem Work.takeReading {src : Byte} {r : Reading} (h : Work owned s t) : Work owned s (takeReading src r t).1 := by
  unfold Machine.takeReading
  split
  · exact h.signal
  · dsimp only
    (repeat' split)
    · exact h.signal
    · exact h.signal
    · next hp => exact h.signal.acceptReading (by simpa using hp)

protected theorem Work.takeReadings {src : Byte} (l : List Reading) (h : Work owned s t) : Work owned s (takeReadings src l t).1 := by
  induction l generalizing t with
  | nil => exact h
  | cons r l ih => exact ih h.takeReading

protected theorem Work.stalenessExpiry {i : Fin 256} (h : Work owned s t) : Work owned s (stalenessExpiry i t) := by
  unfold Machine.stalenessExpiry
  split
  · exact h
  · next p hp =>
    have staled : Work owned s (t.setPoint i (some p.wentStale)) := h.movePoint hp rfl
    dsimp only
    (repeat' split)
    · exact staled.raise.handStaleness
    · exact staled.handStaleness
    · exact h

/-! ## Frames (chapter 1) -/

/-- A write to the Chain Interface that keeps straps and hop budget. -/
theorem Work.moveCi (h : Work owned s t) {x : ChainInterface} (hs : x.straps = t.ci.straps) (hb : x.hopBudget = t.ci.hopBudget) :
    Work owned s (t.withCi x) := h.withCi hs fun _ => hb

protected theorem Work.settleIdlePort (h : Work owned s t) : Work owned s (settleIdlePort t) := by
  rw [settleIdlePort_frame]; exact h.moveCi rfl rfl

protected theorem Work.raiseLink {e : Time} (h : Work owned s t) : Work owned s (raiseLink e t) := by
  unfold Machine.raiseLink; dsimp only; (repeat' split)
  · exact h
  · exact h.moveCi rfl rfl
  · exact h.moveCi rfl rfl
  · exact Work.raise (h.moveCi rfl rfl)

protected theorem Work.forward {f : Frame} (h : Work owned s t) : Work owned s (forward f t) := by
  obtain ⟨c, hc⟩ | ⟨-, hc⟩ := forward_cases f t <;> rw [hc]
  · exact h.signal
  · exact h.moveCi rfl rfl

protected theorem Work.consumeOrForward {f : Frame} (h : Work owned s t) : Work owned s (consumeOrForward f t) := by
  unfold Machine.consumeOrForward; split
  · exact h
  · exact h.forward

protected theorem Work.returnSample {f : Frame} {kept : List Reading} (h : Work owned s t) : Work owned s (returnSample f kept t) := by
  unfold Machine.returnSample; split
  · exact h
  · exact h.consumeOrForward

protected theorem Work.readSome {n : Nat} {w : SampleInWork} (h : Work owned s t) : Work owned s (readSome n w t) := by
  obtain ⟨-, hr⟩ | ⟨-, hr⟩ := readSome_cases n w t <;> rw [hr]
  · exact (h.takeReadings _).returnSample
  · exact (h.takeReadings _).moveCi rfl rfl

protected theorem Work.readOn {d : Bool} {w : SampleInWork} (h : Work owned s t) : Work owned s (readOn d w t) := by
  obtain ⟨n, later, -, -, hr⟩ | ⟨-, hr⟩ := readOn_cases d w t <;> rw [hr]
  · exact (h.withTurns _).readSome
  · exact h.readSome

protected theorem Work.takeValid {d : Bool} {f : Frame} (h : Work owned s t) : Work owned s (takeValid d f t) := by
  unfold Machine.takeValid classify takeSample takeReq; (repeat' split)
  · exact h.forward
  · exact h
  · exact h.readOn
  · exact h.consumeOrForward
  · exact h.takeAck
  · exact h.withRu fun _ => rfl
  · exact h.signal
  · exact h
  all_goals exact h.forward

protected theorem Work.frameEnd {d : Bool} (h : Work owned s t) : Work owned s (frameEnd d t) := by
  obtain ⟨w, -, hr⟩ | ⟨-, -, hr⟩ | ⟨f, -, -, ⟨-, hr⟩ | ⟨-, hr⟩⟩ := frameEnd_cases d t <;> rw [hr]
  · exact Work.settleIdlePort (Work.readOn (h.moveCi rfl rfl))
  · exact h
  · exact Work.settleIdlePort (Work.takeValid (Work.raiseLink (Work.signal (h.moveCi rfl rfl))))
  · exact Work.signal (Work.signal (h.moveCi rfl rfl))

protected theorem Work.receiveSymbol {x : Symbol} (h : Work owned s t) : Work owned s (receiveSymbol x t) := by
  have timed : Work owned s (startLinkTimer t) := h.moveCi rfl rfl
  unfold Machine.receiveSymbol takeDelimiter takeData endFrame collect; (repeat' split)
  · exact timed
  · exact timed.frameEnd.moveCi rfl rfl
  · exact timed.moveCi rfl rfl
  · exact timed.moveCi rfl rfl
  · exact timed
  · exact timed.moveCi rfl rfl
  · exact timed.frameEnd.moveCi rfl rfl

protected theorem Work.linkDownExpiry (h : Work owned s t) : Work owned s (linkDownExpiry t) := by
  have cut {u : State} (hu : Work owned s u) : Work owned s (truncateFrame u) := by
    unfold truncateFrame; split
    · exact Work.signal (Work.signal (hu.moveCi rfl rfl))
    all_goals exact hu
  unfold Machine.linkDownExpiry linkDown; (repeat' split)
  · exact h
  · exact (cut h.frameEnd).moveCi rfl rfl
  · exact (cut h.frameEnd).moveCi rfl rfl
  · exact h

protected theorem Work.grantPort {cls : EgressClass} {p : Producer} {bytes : List Byte} (h : Work owned s t) :
    Work owned s (grantPort cls p bytes t) := h.moveCi rfl rfl

/-- What is granted changes the Note Unit only where a note is. -/
protected theorem Work.egressGrant (h : Work owned s t) (hn : .notes ∈ owned) : Work owned s (egressGrant t) := by
  unfold Machine.egressGrant grantTransit grantOriginated; (repeat' split)
  · exact h
  · exact h
  · exact Work.grantPort (h.moveCi rfl rfl)
  · exact Work.grantPort (h.withRu fun _ => rfl)
  · refine Work.grantPort (Work.moveCi ?_ rfl rfl)
    exact h.moveChan rfl
  · exact Work.grantPort (h.withNu fun n => absurd hn n)
  all_goals exact h

protected theorem Work.egressDone (h : Work owned s t) (hn : .notes ∈ owned) : Work owned s (egressDone t) := by
  unfold Machine.egressDone deliverDone noteDone
  split
  · exact h
  · have freed : Work owned s (t.withCi { t.ci with port := .free }) := h.moveCi rfl rfl
    refine Work.settleIdlePort ?_
    dsimp only
    (repeat' split)
    · exact freed.signal
    · exact freed
    · exact freed.setDone
    · exact freed.signal.withNu fun n => absurd hn n
    · exact freed.signal

end Sys2Proof.Machine
end

section
/-! What every command leaves of the settings of the part, of the sweep and of the Note Queue: O2, O13 and O16. -/

namespace Sys2Proof.Machine
open Sys2Proof.Claims

/-! ## Requests -/

/-- A property that the Request Unit's own bookkeeping keeps: writes to it that leave the binding, and counted events. -/
structure Clerical (P : State → Prop) : Prop where
  book : ∀ {s : State} {u : RequestUnit}, u.manager = s.ru.manager → P s → P (s.withRu u)
  event : ∀ {s : State} (c : EventClass), P s → P (signal c s)

theorem makeRoom_manager (u : RequestUnit) : u.makeRoom.manager = u.manager := by
  unfold RequestUnit.makeRoom; split <;> rfl

section
variable {P : State → Prop} (hP : Clerical P) {s : State}
include hP

theorem Clerical.formReply (r : Reply) (h : P s) : P (formReply r s) := by
  have placed : P (s.withRu (s.ru.place r)) := hP.book (place_manager _ _) h
  unfold Machine.formReply
  dsimp only
  split
  · exact placed
  · exact hP.event _ placed

theorem Clerical.finish (q : Request) (v : Verdict) (h : P s) : P (finish q v s) := by
  cases v with
  | reply status data => exact hP.formReply _ (hP.book rfl h)
  | deferred => exact hP.book rfl h
  | reading r => exact hP.book rfl h

/-- Taking a request keeps such a property when its owner's claim does. -/
theorem Clerical.takeRequest {accepts : Request → Bool} {owner : Owner} (own : ∀ q {u}, P u → P (owner q u).1) (h : P s) :
    P (takeRequest accepts owner s) := by
  have roomy {u : State} (hu : P u) : P (u.withRu u.ru.makeRoom) := hP.book (makeRoom_manager _) hu
  unfold Machine.takeRequest
  split
  · exact h
  · next q rest _ =>
    split
    · have dequeued : P (s.withRu { s.ru with fifo := rest }) := hP.book rfl h
      unfold serve serveNew
      dsimp only
      (repeat' split)
      · exact hP.event _ dequeued
      · exact hP.book (place_manager _ _) dequeued
      · exact dequeued
      · exact hP.finish _ _ (roomy dequeued)
      · exact hP.finish _ _ (roomy dequeued)
      · exact hP.finish _ _ (own q (roomy dequeued))
    · exact h

end

variable {owned : List Holding} {s t : State}

theorem clerical_work : Clerical (Work owned s) where
  book hm h := h.withRu fun _ => hm
  event _ h := h.signal

/-- A request's command leaves what its owner's claim leaves. -/
theorem Work.takeRequest {accepts : Request → Bool} {owner : Owner} (h : Work owned s t)
    (own : ∀ q {u}, Work owned s u → Work owned s (owner q u).1) : Work owned s (takeRequest accepts owner t) :=
  clerical_work.takeRequest own h

/-- An owner that only reads leaves the state as it is. -/
theorem Work.takeReading_request {accepts : Request → Bool} {owner : Owner} (h : Work owned s t) (reads : ∀ q u, (owner q u).1 = u) :
    Work owned s (Machine.takeRequest accepts owner t) :=
  h.takeRequest fun q u hu => by rw [reads]; exact hu

/-! ## Owners that only read -/

theorem ownIdentify_reads (q : Request) (s : State) : (ownIdentify q s).1 = s := rfl
theorem ownReadCounters_reads (q : Request) (s : State) : (ownReadCounters q s).1 = s := rfl
theorem ownMalformed_reads (q : Request) (s : State) : (ownMalformed q s).1 = s := rfl

theorem ownReadPoint_reads (q : Request) (s : State) : (ownReadPoint q s).1 = s := by
  unfold ownReadPoint; split <;> rfl

theorem ownFindPoint_reads (q : Request) (s : State) : (ownFindPoint q s).1 = s := by
  unfold ownFindPoint; (repeat' split) <;> rfl

theorem ownReadRegulator_reads (q : Request) (s : State) : (ownReadRegulator q s).1 = s := by
  unfold ownReadRegulator; (repeat' split) <;> rfl

theorem ownReadActuator_reads (q : Request) (s : State) : (ownReadActuator q s).1 = s := by
  unfold ownReadActuator; split <;> rfl

/-! ## Owners that change the part: what each can leave -/

theorem readStatusOn_leaves (r : StatusRead) (s : State) : ∃ x, (readStatusOn r s).1 = s.withTurns x := by
  obtain ⟨gs, later, -, h⟩ | ⟨-, h⟩ := readStatusOn_cases r s <;> rw [h]
  · exact ⟨later, rfl⟩
  · exact ⟨s.turns, rfl⟩

theorem ownBind_leaves (q : Request) (s : State) :
    (ownBind q s).1 = s ∨ (s.ru.manager = none ∧ (ownBind q s).1 = s.withRu { s.ru with manager := some q.src }) := by
  unfold ownBind
  split
  · next h => exact .inr ⟨h, rfl⟩
  · split <;> exact .inl rfl

theorem ownUnbind_leaves (q : Request) (s : State) :
    (ownUnbind q s).1 = s ∨ (ownUnbind q s).1 = (s.withRu { s.ru with manager := none }).withNu s.nu.unbind := by
  unfold ownUnbind
  split
  · exact .inl rfl
  · split
    · exact .inr rfl
    · exact .inl rfl

theorem ownSetChain_leaves (q : Request) (s : State) :
    (ownSetChain q s).1 = s ∨ ∃ v, v ≠ 0 ∧ (ownSetChain q s).1 = s.withCi { s.ci with hopBudget := v } := by
  unfold ownSetChain
  dsimp only
  split
  · exact .inl rfl
  · next h => exact .inr ⟨_, h, rfl⟩

theorem ownSetOverride_leaves (q : Request) (s : State) :
    (ownSetOverride q s).1 = s ∨ ∃ v, (ownSetOverride q s).1 = s.withOm { s.om with holdTime := v } := by
  unfold ownSetOverride
  dsimp only
  split
  · exact .inr ⟨_, rfl⟩
  · exact .inl rfl

theorem ownWritePoint_leaves (q : Request) (s : State) :
    (ownWritePoint q s).1 = s ∨ ∃ i c, pointConfig? q.payload = some c ∧ keyTaken s i c.key = false ∧
      (feedbackNamed s i = true → c.kind = .speed) ∧ (ownWritePoint q s).1 = carryOutWrite i c s := by
  unfold ownWritePoint
  dsimp only
  split
  · exact .inl rfl
  · next c hc =>
    split
    · exact .inl rfl
    · next hkey =>
      split
      · exact .inl rfl
      · next hkind => exact .inr ⟨_, c, hc, by simpa using hkey, by simpa using hkind, rfl⟩

theorem ownDeletePoint_leaves (q : Request) (s : State) :
    (ownDeletePoint q s).1 = s ∨
      ∃ i, pointNamed s i = false ∧ (ownDeletePoint q s).1 = leaveCritical i (s.setPoint i none) := by
  unfold ownDeletePoint
  dsimp only
  split
  · exact .inl rfl
  · split
    · exact .inl rfl
    · next h => exact .inr ⟨_, by simpa using h, rfl⟩

theorem ownSetWatch_leaves (q : Request) (s : State) :
    (ownSetWatch q s).1 = s ∨ ∃ i p w, s.point i = some p ∧ w.valid = false ∧ w.tripped = false ∧
      (ownSetWatch q s).1 = s.setPoint i (some { p with watch := some w }) := by
  unfold ownSetWatch
  dsimp only
  split
  · split
    · exact .inl rfl
    · next p hp => exact .inr ⟨_, p, _, hp, rfl, rfl, rfl⟩
  · exact .inl rfl

theorem ownClearWatch_leaves (q : Request) (s : State) :
    (ownClearWatch q s).1 = s ∨
      ∃ i p, s.point i = some p ∧ (ownClearWatch q s).1 = s.setPoint i (some { p with watch := none }) := by
  unfold ownClearWatch
  dsimp only
  split
  · exact .inl rfl
  · next p hp => exact .inr ⟨_, p, hp, rfl⟩

theorem ownWriteRegulator_leaves (q : Request) (s : State) :
    (ownWriteRegulator q s).1 = s ∨ ∃ r c, regulatorConfig? q.payload = some c ∧ pointsUsable s c = true ∧
      ((s.reg r).state = .disabled ∨ structuralChange (s.reg r).config c = false) ∧ channelTaken s r c.actuator = false ∧
      (ownWriteRegulator q s).1 = participateChange r (s.reg r) c (s.setReg r { s.reg r with config := c }) := by
  unfold ownWriteRegulator
  split
  · next r c _ hc =>
    dsimp only
    split
    · exact .inl rfl
    · next hpoints =>
      split
      · exact .inl rfl
      · next hstate =>
        split
        · exact .inl rfl
        · next htaken =>
          refine .inr ⟨r, c, hc, by simpa using hpoints, ?_, by simpa using htaken, rfl⟩
          simpa [or_iff_not_imp_left] using hstate
  · exact .inl rfl

theorem ownWriteCurve_leaves (q : Request) (s : State) :
    (ownWriteCurve q s).1 = s ∨ ∃ r v, curveValid v = true ∧ (ownWriteCurve q s).1 = s.setReg r { s.reg r with curve := v } := by
  unfold ownWriteCurve
  split
  · exact .inl rfl
  · next r _ =>
    dsimp only
    split
    · next h => exact .inr ⟨r, _, h, rfl⟩
    · exact .inl rfl

theorem ownEnableRegulator_leaves (q : Request) (s : State) :
    (ownEnableRegulator q s).1 = s ∨
      ∃ r, enableable s (s.reg r) = true ∧ (ownEnableRegulator q s).1 = carryOutEnable r s := by
  unfold ownEnableRegulator
  split
  · exact .inl rfl
  · next r _ =>
    split
    · next h => exact .inr ⟨r, h, rfl⟩
    · exact .inl rfl

theorem ownDisableRegulator_leaves (q : Request) (s : State) :
    (ownDisableRegulator q s).1 = s ∨ ∃ r, (ownDisableRegulator q s).1 = carryOutDisable r s := by
  unfold ownDisableRegulator
  split
  · exact .inl rfl
  · next r _ => exact .inr ⟨r, rfl⟩

/-- What TAKE_MANUAL leaves with its verdict: a level set in MANUAL, an entry to MANUAL (with a choice used up or not), or a HANDOVER. -/
theorem ownTakeManual_leaves (q : Request) (s : State) :
    (ownTakeManual q s).1 = s ∧ (∃ x, (ownTakeManual q s).2 = refuse x) ∨ ∃ r l, l ≤ 1000 ∧
      ((s.reg r).state = .manual ∧ (ownTakeManual q s).1 = setManual r l s ∧ (∃ d, (ownTakeManual q s).2 = .reply .ok d) ∨
      (s.reg r).state.controlling = true ∧
        ((∃ x d, ownTakeManual q s = (writeManual r ((s.withTurns x).setReg r ((s.reg r).take .manual l none)), .reply .ok d)) ∨
        (s.ru.pendingCount < 3 ∧ ownTakeManual q s = (s.setReg r ((s.reg r).take .handover l (some q.ref)), .deferred)))) := by
  unfold ownTakeManual
  split
  · exact .inl ⟨rfl, _, rfl⟩
  · next r _ =>
    split
    · next hl =>
      unfold takeManualAt enterManual
      dsimp only
      split
      · exact .inl ⟨rfl, _, rfl⟩
      · exact .inl ⟨rfl, _, rfl⟩
      · next hs => exact .inr ⟨r, _, hl, .inl ⟨hs, rfl, _, rfl⟩⟩
      all_goals
        next hs =>
        have controlling : (s.reg r).state.controlling = true := by rw [hs]; rfl
        split
        · exact .inr ⟨r, _, hl, .inr ⟨controlling, .inl ⟨s.turns, _, rfl⟩⟩⟩
        · split
          · exact .inr ⟨r, _, hl, .inr ⟨controlling, .inl ⟨s.turns.tail, _, rfl⟩⟩⟩
          · split
            · next hp => exact .inr ⟨r, _, hl, .inr ⟨controlling, .inr ⟨hp, rfl⟩⟩⟩
            · exact .inl ⟨rfl, _, rfl⟩
    · exact .inl ⟨rfl, _, rfl⟩

theorem ownSetManualLevel_leaves (q : Request) (s : State) :
    (ownSetManualLevel q s).1 = s ∨ ∃ r l, l ≤ 1000 ∧
      ((s.reg r).state = .manual ∧ (ownSetManualLevel q s).1 = setManual r l s ∨
      (s.reg r).state = .handover ∧ (ownSetManualLevel q s).1 = s.setReg r { s.reg r with manualLevel := some l }) := by
  unfold ownSetManualLevel
  split
  · exact .inl rfl
  · next r _ =>
    split
    · next hl =>
      unfold setManualAt
      split
      · next hs => exact .inr ⟨r, _, hl, .inl ⟨hs, rfl⟩⟩
      · next hs => exact .inr ⟨r, _, hl, .inr ⟨hs, rfl⟩⟩
      all_goals exact .inl rfl
    · exact .inl rfl

theorem ownReleaseManual_leaves (q : Request) (s : State) :
    (ownReleaseManual q s).1 = s ∨ ∃ r, ((s.reg r).state = .manual ∨ (s.reg r).state = .handover) ∧
      (ownReleaseManual q s).1 = carryOutRelease r s := by
  unfold ownReleaseManual
  split
  · exact .inl rfl
  · next r _ =>
    split
    · next hs => exact .inr ⟨r, .inl hs, rfl⟩
    · next hs => exact .inr ⟨r, .inr hs, rfl⟩
    all_goals exact .inl rfl

theorem ownWriteActuator_leaves (q : Request) (s : State) :
    (ownWriteActuator q s).1 = s ∨ ∃ c n, channelConfig? q.payload = some n ∧ channelEngaged s c = false ∧
      (s.chan c).exchangeOpen = false ∧ (n.node = 0 ∨ bindingTaken s c n = false) ∧
      (ownWriteActuator q s).1 = carryOutBinding c n s := by
  unfold ownWriteActuator
  split
  · next c n _ hn =>
    split
    · exact .inl rfl
    · next hfree =>
      split
      · exact .inl rfl
      · next hpair =>
        simp only [Bool.or_eq_true, not_or, Bool.not_eq_true] at hfree
        refine .inr ⟨c, n, hn, hfree.1, hfree.2, ?_, rfl⟩
        simpa [or_iff_not_imp_left] using hpair
  · exact .inl rfl

theorem ownResetActuator_leaves (q : Request) (s : State) :
    (ownResetActuator q s).1 = s ∨ ∃ c, (ownResetActuator q s).1 = settleIdleChannel c (s.chan c) (s.chan c).abandon s := by
  unfold ownResetActuator
  split
  · exact .inl rfl
  · next c _ => exact .inr ⟨c, rfl⟩

theorem ownAckNotes_leaves (q : Request) (s : State) :
    (ownAckNotes q s).1 = s ∨ ∃ x rest, dropThrough x s.nu.inFlight = some rest ∧
      (ownAckNotes q s).1 = s.withNu (s.nu.acknowledge rest (s.startTimer Config.resendMs)) := by
  unfold ownAckNotes
  split
  · exact .inl rfl
  · next rest h => exact .inr ⟨_, rest, h, rfl⟩

theorem ownSweep_leaves (q : Request) (s : State) :
    ((ownSweep q s).1 = s ∧ ∃ x, (ownSweep q s).2 = refuse x) ∨
      (sweepInRange (num16At q.payload 1) (num16At q.payload 3) (numAt q.payload 5) = true ∧ s.sweep = none ∧ s.ru.pendingCount < 3 ∧
        ownSweep q s = (s.withSweep (some (sweepStart q s.timebase)), .deferred)) := by
  unfold ownSweep
  split
  · exact .inl ⟨rfl, _, rfl⟩
  · next hrange =>
    split
    · exact .inl ⟨rfl, _, rfl⟩
    · next hbusy =>
      simp only [Bool.or_eq_true, not_or, Bool.not_eq_true, Option.isSome_eq_false_iff, Option.isNone_iff_eq_none] at hbusy
      exact .inr ⟨by simpa using hrange, hbusy.1, Nat.lt_of_not_le (of_decide_eq_false hbusy.2), rfl⟩

theorem ownWriteCounters_leaves (q : Request) (s : State) :
    (ownWriteCounters q s).1 = s ∨ ∃ v, (ownWriteCounters q s).1 = s.withCounters { counter := v, frozen := false } := by
  unfold ownWriteCounters
  split
  · exact .inl rfl
  · next v _ => exact .inr ⟨v, rfl⟩

end Sys2Proof.Machine
end

section
/-! What every command leaves of the settings of the part, of the sweep and of the Note Queue: O2, O13 and O16. -/

namespace Sys2Proof.Machine
open Sys2Proof.Claims

variable {owned : List Holding} {s t : State}

/-! ## Regulators (chapters 4 and 7) -/

protected theorem Work.periodExpiry {r : Fin 32} (h : Work owned s t) : Work owned s (periodExpiry r t) := by
  unfold Machine.periodExpiry; dsimp only; (repeat' split)
  · exact h.evaluate.startPeriod
  · exact h.evaluate.startPeriod
  · exact h.assertCeiling.startPeriod
  all_goals exact h

protected theorem Work.participateChange {r : Fin 32} {g : Regulator} {c : RegulatorConfig} (h : Work owned s t) :
    Work owned s (participateChange r g c t) := by
  unfold Machine.participateChange; (repeat' split)
  · exact h.evaluate
  · exact h
  · exact h.assertCeiling
  all_goals exact h

protected theorem Work.carryOutEnable {r : Fin 32} (h : Work owned s t) : Work owned s (carryOutEnable r t) := by
  unfold Machine.carryOutEnable
  refine Work.enableSupervisor (Work.startPeriod (Work.resumeControl ?_))
  exact h.moveReg rfl rfl

protected theorem Work.carryOutDisable {r : Fin 32} (h : Work owned s t) : Work owned s (carryOutDisable r t) := by
  unfold Machine.carryOutDisable
  refine Work.resetSupervisor ?_
  exact h.cancelHandover.moveReg rfl rfl

protected theorem Work.carryOutRelease {r : Fin 32} (h : Work owned s t) : Work owned s (carryOutRelease r t) := by
  unfold Machine.carryOutRelease
  refine Work.startPeriod (Work.resumeControl ?_)
  exact h.cancelHandover.moveReg rfl rfl

protected theorem Work.setManual {r : Fin 32} {l : Nat} (h : Work owned s t) : Work owned s (setManual r l t) := by
  unfold Machine.setManual
  refine Work.writeManual ?_
  exact h.moveReg rfl rfl

theorem Work.ownTakeManual {q : Request} (h : Work owned s t) : Work owned s (ownTakeManual q t).1 := by
  obtain ⟨hr, -⟩ | ⟨r, l, -, ⟨-, hr, -⟩ | ⟨-, ⟨x, d, hr⟩ | ⟨-, hr⟩⟩⟩ := ownTakeManual_leaves q t <;> rw [hr]
  · exact h
  · exact h.setManual
  · refine Work.writeManual ?_
    exact (h.withTurns x).moveReg rfl rfl
  · exact h.moveReg rfl rfl

theorem Work.ownSetManualLevel {q : Request} (h : Work owned s t) : Work owned s (ownSetManualLevel q t).1 := by
  obtain hr | ⟨r, l, -, ⟨-, hr⟩ | ⟨-, hr⟩⟩ := ownSetManualLevel_leaves q t <;> rw [hr]
  · exact h
  · exact h.setManual
  · exact h.moveReg rfl rfl

/-! ## RESTART and CLEAR_ALL -/

theorem Work.restartBlocks (h : Work owned s t) (hn : .notes ∈ owned) (hs : .sweep ∈ owned) : Work owned s (restartBlocks t) where
  pending := h.pending
  straps := h.straps
  timebase := h.timebase
  budget := h.budget
  manager := h.manager
  holdTime := h.holdTime
  points n i := by
    rw [← h.points n i]
    simp only [State.point, Machine.restartBlocks, Fin.getElem_fin, Vector.getElem_map, Option.map_map]
    rfl
  regulators := h.regulators
  curves := h.curves
  channels n c := by
    rw [← h.channels n c]
    simp only [State.chan, Machine.restartBlocks, Fin.getElem_fin, Vector.getElem_map]
    rfl
  counters := h.counters
  sweep n := absurd hs n
  notes n := absurd hn n

protected theorem Work.restartRegulator {r : Fin 32} (h : Work owned s t) : Work owned s (restartRegulator r t) := by
  have set : Work owned s (t.setReg r (t.reg r).restart) :=
    h.moveReg (by unfold Regulator.restart; split <;> rfl) (by unfold Regulator.restart; split <;> rfl)
  unfold Machine.restartRegulator; dsimp only; split
  · exact set
  · exact set.writeManual
  · exact set.writeManual
  all_goals exact set.evaluate.startPeriod

theorem Work.clearBlocks (h : Work owned s t) (hn : ∀ x ∈ [.points, .regulators, .curves, .channels, .counters, .sweep, .notes], x ∈ owned) :
    Work owned s (clearBlocks t) where
  pending := h.pending
  straps := h.straps
  timebase := h.timebase
  budget := h.budget
  manager := h.manager
  holdTime := h.holdTime
  points n := absurd (hn _ (by simp)) n
  regulators n := absurd (hn _ (by simp)) n
  curves n := absurd (hn _ (by simp)) n
  channels n := absurd (hn _ (by simp)) n
  counters n := absurd (hn _ (by simp)) n
  sweep n := absurd (hn _ (by simp)) n
  notes n := absurd (hn _ (by simp)) n

/-! ## The sweep -/

protected theorem Work.visit (h : Work owned s t) (hs : .sweep ∈ owned) : Work owned s (visit t) := by
  have acted (d : Sweep) (i : Fin 256) : Work owned s (visitRecord d i t) := by
    unfold visitRecord
    split
    · exact h
    · next p hp =>
      have written : Work owned s (t.setPoint i (some (p.visited d t.timebase))) :=
        h.movePoint hp (by unfold Point.visited; dsimp only; (repeat' split) <;> rfl)
      dsimp only
      split
      · exact written.leaveCritical
      · exact written
  unfold Machine.visit; dsimp only; (repeat' split)
  · exact h
  · exact h
  · exact (acted _ _).withSweep fun n => absurd hs n
  · exact (acted _ _).withSweep fun n => absurd hs n
  · exact h

protected theorem Work.sweepStep (h : Work owned s t) (hs : .sweep ∈ owned) : Work owned s (sweepStep t) := by
  have visited : Work owned s (Nat.repeat visit Config.sweepBatch t) := repeat_keeps visit _ (fun _ h => h.visit hs) _ h
  unfold Machine.sweepStep sweepAfterVisits; (repeat' split)
  · exact h
  · exact visited
  · exact visited.withSweep fun n => absurd hs n
  · refine Work.completeEntry ?_
    exact visited.withSweep fun n => absurd hs n
  · exact h

/-! ## Every command -/

/-- What a command may change alone (O16), and what it may do to the sweep and to the Note Queue. -/
def owns : Instr → List Holding
  | .timebaseAdvance => [.timebase]
  | .bind => [.manager]
  | .unbind => [.manager, .notes]
  | .setOverride => [.holdTime]
  | .setChain => [.budget]
  | .writePoint | .deletePoint => [.points]
  | .writeRegulator => [.regulators]
  | .writeCurve => [.curves]
  | .writeActuator => [.channels]
  | .writeCounters => [.counters]
  | .restart => [.sweep, .notes]
  | .clearAll => [.points, .regulators, .curves, .channels, .counters, .sweep, .notes]
  | .sweep | .sweepStepExpiry => [.sweep]
  | .egressGrant | .egressDone | .resendTimerExpiry | .ackNotes => [.notes]
  | _ => []

/-- A command other than COLD_RESET changes only what it owns. -/
theorem exec_work (c : Instr) (s : State) (hc : ∀ a, c ≠ .coldReset a) : ∃ t, exec c s = .next t ∧ Work (owns c) s t := by
  have h {owned : List Holding} : Work owned s s := .refl s
  cases c with
  | coldReset a => exact absurd rfl (hc a)
  | timebaseAdvance =>
    have marked : Work (owns .timebaseAdvance) s (s.withChans (s.chans.map Channel.settleMark)) :=
      { Work.refl s with channels := fun _ c => by simp [State.chan, State.withChans] }
    exact ⟨_, rfl, marked.withTimebase fun n => absurd (by simp [owns]) n⟩
  | frameEnd => exact ⟨_, rfl, h.frameEnd⟩
  | symbolReceived x => exact ⟨_, rfl, h.receiveSymbol⟩
  | linkDownTimerExpiry => exact ⟨_, rfl, h.linkDownExpiry⟩
  | egressGrant => exact ⟨_, rfl, h.egressGrant (by simp [owns])⟩
  | egressDone => exact ⟨_, rfl, h.egressDone (by simp [owns])⟩
  | stalenessExpiry i => exact ⟨_, rfl, h.stalenessExpiry⟩
  | periodTimerExpiry r => exact ⟨_, rfl, h.periodExpiry⟩
  | holdTimerExpiry =>
    refine ⟨_, rfl, ?_⟩
    unfold holdExpiry; split
    · exact h.overrideClearing
    · exact h
  | stallWindowExpiry r =>
    refine ⟨_, rfl, ?_⟩
    unfold windowExpiry; split
    · exact (h.setSup _ _).tellStalled.raise
    · exact h
  | ackTimerExpiry c => exact ⟨_, rfl, h.ackExpiry⟩
  | probeTimerExpiry c => exact ⟨_, rfl, h.probeExpiry⟩
  | resendTimerExpiry =>
    refine ⟨_, rfl, ?_⟩
    unfold resendExpiry; split
    · exact h.withNu fun n => absurd (by simp [owns]) n
    · exact h
  | sweepStepExpiry => exact ⟨_, rfl, h.sweepStep (by simp [owns])⟩
  | identify => exact ⟨_, rfl, h.takeReading_request ownIdentify_reads⟩
  | readPoint => exact ⟨_, rfl, h.takeReading_request ownReadPoint_reads⟩
  | findPoint => exact ⟨_, rfl, h.takeReading_request ownFindPoint_reads⟩
  | readRegulator => exact ⟨_, rfl, h.takeReading_request ownReadRegulator_reads⟩
  | readActuator => exact ⟨_, rfl, h.takeReading_request ownReadActuator_reads⟩
  | readCounters => exact ⟨_, rfl, h.takeReading_request ownReadCounters_reads⟩
  | malformedRequest => exact ⟨_, rfl, h.takeReading_request ownMalformed_reads⟩
  | readStatus =>
    have reads (r : StatusRead) {owned : List Holding} {u : State} (hu : Work owned s u) : Work owned s (readStatusOn r u).1 := by
      obtain ⟨x, hx⟩ := readStatusOn_leaves r u
      rw [hx]; exact hu.withTurns x
    obtain ⟨x, -, hx⟩ | ⟨-, hx⟩ := execReadStatus_cases s
    · exact ⟨_, hx, clerical_work.finish _ _ (reads _ (h.withRu fun _ => rfl))⟩
    · exact ⟨_, hx, h.takeRequest fun q u hu => reads _ hu⟩
  | bind =>
    refine ⟨_, rfl, h.takeRequest fun q u hu => ?_⟩
    obtain hr | ⟨-, hr⟩ := ownBind_leaves q u <;> rw [hr]
    · exact hu
    · exact hu.withRu fun n => absurd (by simp [owns]) n
  | unbind =>
    refine ⟨_, rfl, h.takeRequest fun q u hu => ?_⟩
    obtain hr | hr := ownUnbind_leaves q u <;> rw [hr]
    · exact hu
    · exact (hu.withRu fun n => absurd (by simp [owns]) n).withNu fun n => absurd (by simp [owns]) n
  | restart =>
    refine ⟨_, rfl, h.takeRequest fun q u hu => Work.signalTimes ?_⟩
    exact (hu.restartBlocks (by simp [owns]) (by simp [owns])).forEach fun _ _ h => h.restartRegulator
  | clearAll => exact ⟨_, rfl, h.takeRequest fun q u hu => Work.signalTimes (hu.clearBlocks (by simp [owns]))⟩
  | setChain =>
    refine ⟨_, rfl, h.takeRequest fun q u hu => ?_⟩
    obtain hr | ⟨v, -, hr⟩ := ownSetChain_leaves q u <;> rw [hr]
    · exact hu
    · exact hu.withCi rfl fun n => absurd (by simp [owns]) n
  | setOverride =>
    refine ⟨_, rfl, h.takeRequest fun q u hu => ?_⟩
    obtain hr | ⟨v, hr⟩ := ownSetOverride_leaves q u <;> rw [hr]
    · exact hu
    · exact hu.withOm fun n => absurd (by simp [owns]) n
  | writePoint =>
    refine ⟨_, rfl, h.takeRequest fun q u hu => ?_⟩
    obtain hr | ⟨i, c, -, -, -, hr⟩ := ownWritePoint_leaves q u <;> rw [hr]
    · exact hu
    · have written (x : Option Point) : Work (owns .writePoint) s (u.setPoint i x) := hu.setPoint fun n => absurd (by simp [owns]) n
      unfold carryOutWrite; dsimp only; (repeat' split)
      · exact written _
      · exact written _
      · exact (written _).leaveCritical
      · exact (written _).leaveCritical
  | deletePoint =>
    refine ⟨_, rfl, h.takeRequest fun q u hu => ?_⟩
    obtain hr | ⟨i, -, hr⟩ := ownDeletePoint_leaves q u <;> rw [hr]
    · exact hu
    · refine Work.leaveCritical ?_
      exact hu.setPoint fun n => absurd (by simp [owns]) n
  | setWatch =>
    refine ⟨_, rfl, h.takeRequest fun q u hu => ?_⟩
    obtain hr | ⟨i, p, w, hp, -, -, hr⟩ := ownSetWatch_leaves q u <;> rw [hr]
    · exact hu
    · exact hu.movePoint hp rfl
  | clearWatch =>
    refine ⟨_, rfl, h.takeRequest fun q u hu => ?_⟩
    obtain hr | ⟨i, p, hp, hr⟩ := ownClearWatch_leaves q u <;> rw [hr]
    · exact hu
    · exact hu.movePoint hp rfl
  | writeRegulator =>
    refine ⟨_, rfl, h.takeRequest fun q u hu => ?_⟩
    obtain hr | ⟨r, c, -, -, -, -, hr⟩ := ownWriteRegulator_leaves q u <;> rw [hr]
    · exact hu
    · refine Work.participateChange ?_
      exact hu.setReg (fun n => absurd (by simp [owns]) n) fun _ => rfl
  | writeCurve =>
    refine ⟨_, rfl, h.takeRequest fun q u hu => ?_⟩
    obtain hr | ⟨r, v, -, hr⟩ := ownWriteCurve_leaves q u <;> rw [hr]
    · exact hu
    · exact hu.setReg (fun _ => rfl) fun n => absurd (by simp [owns]) n
  | enableRegulator =>
    refine ⟨_, rfl, h.takeRequest fun q u hu => ?_⟩
    obtain hr | ⟨r, -, hr⟩ := ownEnableRegulator_leaves q u <;> rw [hr]
    · exact hu
    · exact hu.carryOutEnable
  | disableRegulator =>
    refine ⟨_, rfl, h.takeRequest fun q u hu => ?_⟩
    obtain hr | ⟨r, hr⟩ := ownDisableRegulator_leaves q u <;> rw [hr]
    · exact hu
    · exact hu.carryOutDisable
  | takeManual => exact ⟨_, rfl, h.takeRequest fun q u hu => hu.ownTakeManual⟩
  | setManualLevel => exact ⟨_, rfl, h.takeRequest fun q u hu => hu.ownSetManualLevel⟩
  | releaseManual =>
    refine ⟨_, rfl, h.takeRequest fun q u hu => ?_⟩
    obtain hr | ⟨r, -, hr⟩ := ownReleaseManual_leaves q u <;> rw [hr]
    · exact hu
    · exact hu.carryOutRelease
  | writeActuator =>
    refine ⟨_, rfl, h.takeRequest fun q u hu => ?_⟩
    obtain hr | ⟨c, n, -, -, -, -, hr⟩ := ownWriteActuator_leaves q u <;> rw [hr]
    · exact hu
    · have written (x : Channel) : Work (owns .writeActuator) s (u.setChan c x) := hu.setChan fun n => absurd (by simp [owns]) n
      unfold carryOutBinding; dsimp only; (repeat' split)
      · exact written _
      · exact (written _).settleIdleChannel
      · exact written _
  | resetActuator =>
    refine ⟨_, rfl, h.takeRequest fun q u hu => ?_⟩
    obtain hr | ⟨c, hr⟩ := ownResetActuator_leaves q u <;> rw [hr]
    · exact hu
    · refine Work.settleIdleChannel ?_
      exact hu.moveChan rfl
  | ackNotes =>
    refine ⟨_, rfl, h.takeRequest fun q u hu => ?_⟩
    obtain hr | ⟨x, rest, -, hr⟩ := ownAckNotes_leaves q u <;> rw [hr]
    · exact hu
    · exact hu.withNu fun n => absurd (by simp [owns]) n
  | sweep =>
    refine ⟨_, rfl, h.takeRequest fun q u hu => ?_⟩
    obtain ⟨hr, -⟩ | ⟨-, -, -, hr⟩ := ownSweep_leaves q u <;> rw [hr]
    · exact hu
    · exact hu.withSweep fun n => absurd (by simp [owns]) n
  | writeCounters =>
    refine ⟨_, rfl, h.takeRequest fun q u hu => ?_⟩
    obtain hr | ⟨v, hr⟩ := ownWriteCounters_leaves q u <;> rw [hr]
    · exact hu
    · exact hu.withCounters fun n => absurd (by simp [owns]) n

/-! ## The statements -/

/-- Settles O1: by the two cases of the queue. -/
theorem stepTakesTheFrontCommand : Obligations.StepTakesTheFrontCommand :=
  ⟨fun c rest s h => by simp [step, h], fun s h => by simp [step, h]⟩

/-- Settles O2: no operation of any command writes the queue. -/
theorem everyCommandCompletesAndKeepsTheQueue : Obligations.EveryCommandCompletesAndKeepsTheQueue := by
  intro c s
  by_cases hc : ∃ a, c = .coldReset a
  · obtain ⟨a, rfl⟩ := hc
    exact ⟨_, rfl, rfl⟩
  · obtain ⟨t, ht, hw⟩ := exec_work c s fun a e => hc ⟨a, e⟩
    exact ⟨t, ht, hw.pending⟩

/-- Settles O16: what a command other than COLD_RESET changes it owns. -/
theorem eachSettingHasItsOwnCommands : Obligations.EachSettingHasItsOwnCommands := by
  intro c s t ht hc
  obtain ⟨u, hu, hw⟩ := exec_work c s hc
  obtain rfl : u = t := by rw [hu] at ht; exact Host.Outcome.next.inj ht
  refine ⟨hw.straps, fun h => hw.timebase ?_, fun h h' => hw.manager ?_, fun h => hw.holdTime ?_, fun h => hw.budget ?_,
    fun h h' h'' => hw.points ?_, fun h h' => hw.regulators ?_, fun h h' => hw.curves ?_, fun h h' => hw.channels ?_,
    fun h h' => hw.counters ?_⟩
  all_goals cases c <;> simp_all [owns]

end Sys2Proof.Machine
end

section
/-! The Note Queue (R164 to R174) and the sweep in progress (R179, R180): the laws O5 and O13. -/

namespace Sys2Proof.Machine
open Sys2Proof.Claims

variable {s t : State} {u : NoteUnit} {n m : Note}

/-! ## Alike notes (R162, R165) -/

theorem Note.alike_iff {a b : Note} : a.alike b = true ↔ a.kind = b.kind ∧ a.subject = b.subject := by simp [Note.alike]

theorem Note.alike_congr {a b a' b' : Note} (ha : a.alike a' = true) (hb : b.alike b' = true) : a.alike b = a'.alike b' := by
  rw [Note.alike_iff] at ha hb
  simp only [Note.alike, ha.1, ha.2, hb.1, hb.2]

theorem Note.alike_comm (a b : Note) : a.alike b = b.alike a := by
  rw [Bool.eq_iff_iff, Note.alike_iff, Note.alike_iff]
  exact ⟨fun h => ⟨h.1.symm, h.2.symm⟩, fun h => ⟨h.1.symm, h.2.symm⟩⟩

@[simp] theorem Note.alike_refl (a : Note) : a.alike a = true := by simp [Note.alike]

/-- No two notes of the list are alike. -/
abbrev Unlike (l : List Note) : Prop := l.Pairwise (fun a b => a.alike b = false)

/-- What merging does to one note of the list: it stays alike to itself. -/
theorem Note.merged_alike (n m : Note) : (if m.alike n then m.absorb n else m).alike m = true := by
  split <;> simp [Note.alike, Note.absorb]

theorem mergeInto_unlike {l : List Note} (h : Unlike l) : Unlike (mergeInto n l) := by
  unfold Unlike mergeInto
  rw [List.pairwise_map]
  exact h.imp fun {a b} hab => (Note.alike_congr (Note.merged_alike n a) (Note.merged_alike n b)).trans hab

theorem append_unlike {l : List Note} (h : Unlike l) (hn : ∀ m ∈ l, m.alike n = false) : Unlike (l ++ [n]) :=
  List.pairwise_append.2 ⟨h, List.pairwise_singleton _ _, fun a ha b hb => by rw [List.mem_singleton.1 hb]; exact hn a ha⟩

/-- R166: the note evicted is the oldest one less severe, and the others stay in their order. -/
theorem evictFor_some {l rest : List Note} (h : evictFor n l = some rest) :
    ∃ before m after, l = before ++ m :: after ∧ rest = before ++ after ∧ m.severity.code < n.severity.code ∧
      ∀ x ∈ before, n.severity.code ≤ x.severity.code := by
  induction l generalizing rest with
  | nil => exact absurd h (by simp [evictFor])
  | cons a l ih =>
    unfold evictFor at h
    split at h
    · next ha => exact ⟨[], a, l, rfl, by simpa using h.symm, ha, by simp⟩
    · next ha =>
      obtain ⟨rest', hr, rfl⟩ := Option.map_eq_some_iff.1 h
      obtain ⟨before, m, after, rfl, rfl, hm, hb⟩ := ih hr
      refine ⟨a :: before, m, after, rfl, rfl, hm, fun x hx => ?_⟩
      obtain rfl | hx := List.mem_cons.1 hx
      · exact Nat.le_of_not_lt ha
      · exact hb x hx

theorem evictFor_eq_none {l : List Note} : evictFor n l = none ↔ ∀ m ∈ l, n.severity.code ≤ m.severity.code := by
  induction l with
  | nil => simp [evictFor]
  | cons a l ih =>
    unfold evictFor
    split
    · next h => simpa using fun ha => absurd h (Nat.not_lt.2 ha)
    · next h => simp [ih, Nat.le_of_not_lt h]

/-- What settling a note can do (R165, R166): it is merged, appended below 32 notes, takes the place of another, or is lost. -/
theorem settle_cases (n : Note) (u : NoteUnit) :
    ((∃ m ∈ u.unsent, m.alike n = true) ∧ u.settle n = ({ u with unsent := mergeInto n u.unsent }, false)) ∨
    ((∀ m ∈ u.unsent, m.alike n = false) ∧ u.depth < 32 ∧ u.settle n = ({ u with unsent := u.unsent ++ [n] }, false)) ∨
    ((∀ m ∈ u.unsent, m.alike n = false) ∧ 32 ≤ u.depth ∧
      ((∃ before m after, u.unsent = before ++ m :: after ∧ m.severity.code < n.severity.code ∧
          (∀ x ∈ before, n.severity.code ≤ x.severity.code) ∧
          u.settle n = ({ u with unsent := before ++ after ++ [n], lost := min 255 (u.lost + 1) }, true)) ∨
       ((∀ x ∈ u.unsent, n.severity.code ≤ x.severity.code) ∧
          u.settle n = ({ u with lost := min 255 (u.lost + 1) }, true)))) := by
  unfold NoteUnit.settle
  split
  · next h => exact .inl ⟨List.any_eq_true.1 h, rfl⟩
  · next h =>
    have unlike : ∀ m ∈ u.unsent, m.alike n = false := by simpa using h
    split
    · next hd => exact .inr (.inl ⟨unlike, hd, rfl⟩)
    · next hd =>
      refine .inr (.inr ⟨unlike, Nat.le_of_not_lt hd, ?_⟩)
      split
      · next rest hr =>
        obtain ⟨before, m, after, hl, rfl, hm, hb⟩ := evictFor_some hr
        exact .inl ⟨before, m, after, hl, hm, hb, rfl⟩
      · next hr => exact .inr ⟨evictFor_eq_none.1 hr, rfl⟩

/-! ## The law of the Note Queue (R164, R170) -/

/-- The law reads the Note Unit and the binding only. -/
theorem NoteLaw.congr (h : NoteLaw (s.withNu t.nu)) (hm : t.ru.manager = s.ru.manager) : NoteLaw t :=
  { h with bound := fun hb => h.bound (hm.symm.trans hb) }

/-- The law with other unsent notes and another lost count. -/
theorem NoteLaw.unsent (h : NoteLaw (s.withNu u)) {l : List Note} {k : Nat} (hd : u.inFlight.length + l.length ≤ 32) (hu : Unlike l)
    (hk : k ≤ 255) : NoteLaw (s.withNu { u with unsent := l, lost := k }) :=
  { h with depth := hd, unlike := hu, lost := ⟨hk, h.lost.2⟩ }

theorem NoteLaw.settle (n : Note) (h : NoteLaw (s.withNu u)) : NoteLaw (s.withNu (u.settle n).1) := by
  have hdepth : u.inFlight.length + u.unsent.length ≤ 32 := h.depth
  have hunlike : Unlike u.unsent := h.unlike
  have hlost : u.lost ≤ 255 := h.lost.1
  obtain ⟨-, hs⟩ | ⟨hn, hd, hs⟩ | ⟨hn, -, ⟨before, m, after, hl, -, -, hs⟩ | ⟨-, hs⟩⟩ := settle_cases n u <;> rw [hs]
  · exact h.unsent (by simpa [mergeInto] using hdepth) (mergeInto_unlike hunlike) hlost
  · exact h.unsent (by simpa [NoteUnit.depth, ← Nat.add_assoc, Nat.succ_le_iff] using hd) (append_unlike hunlike hn) hlost
  · rw [hl] at hunlike hdepth hn
    refine h.unsent ?_ (append_unlike (hunlike.sublist ?_) fun x hx => hn x ?_) (Nat.min_le_left _ _)
    · simp only [List.length_append, List.length_cons, List.length_nil] at hdepth ⊢
      omega
    · exact (List.Sublist.refl before).append (List.sublist_cons_self m after)
    · simp only [List.mem_append, List.mem_cons] at hx ⊢
      exact hx.imp id .inr
  · exact h.unsent hdepth hunlike (Nat.min_le_left _ _)

theorem NoteLaw.of_settling (h : NoteLaw s) (hn : Settling s.nu t.nu) (hm : t.ru.manager = s.ru.manager) : NoteLaw t :=
  .congr (hn.keeps (fun w => NoteLaw (s.withNu w)) (fun n _ hw => hw.settle n) (fun _ _ hw => { hw with }) h) hm

/-- What only raises notes keeps the law. -/
theorem NoteLaw.of_work {owned : List Holding} (h : NoteLaw s) (hw : Work owned s t) (hn : .notes ∉ owned) (hm : .manager ∉ owned) :
    NoteLaw t := h.of_settling (hw.notes hn) (hw.manager hm)

theorem clerical_noteLaw : Clerical NoteLaw where
  book hm h := { h with bound := fun hb => h.bound (hm.symm.trans hb) }
  event c h := h.of_work (owned := []) (Work.refl _).signal (by simp) (by simp)

/-! ## Sends, resends, acknowledgements and the unbind -/

/-- R168: the sequences stay consecutive as the next one is taken. -/
theorem consecutiveUpTo_append {x : Half} {l : List SentNote} (h : consecutiveUpTo x l) (n : Note) (k : Nat) :
    consecutiveUpTo (x + 1#16) (l ++ [{ note := n, sequence := x, lost := k }]) := by
  induction l with
  | nil => exact ⟨by simp, trivial⟩
  | cons a l ih =>
    refine ⟨h.1.trans ?_, ih h.2⟩
    have hlen : (l ++ [({ note := n, sequence := x, lost := k } : SentNote)]).length = l.length + 1 := by simp
    rw [List.append_eq, hlen, BitVec.ofNat_add]
    bv_omega

theorem consecutiveUpTo_suffix {x : Half} {l r : List SentNote} (h : consecutiveUpTo x (l ++ r)) : consecutiveUpTo x r := by
  induction l with
  | nil => exact h
  | cons a l ih => exact ih h.2

/-- Every note in flight stands at its own distance before the next sequence. -/
theorem consecutiveUpTo_distance {x : Half} {l : List SentNote} (h : consecutiveUpTo x l) {a : SentNote} (ha : a ∈ l) :
    ∃ k, k < l.length ∧ a.sequence = x - BitVec.ofNat 16 (k + 1) := by
  induction l with
  | nil => exact absurd ha List.not_mem_nil
  | cons b l ih =>
    obtain rfl | ha := List.mem_cons.1 ha
    · exact ⟨l.length, Nat.lt_succ_self _, h.1⟩
    · obtain ⟨k, hk, he⟩ := ih h.2 ha
      exact ⟨k, Nat.lt_succ_of_lt hk, he⟩

/-- Within the window no two notes in flight have the same sequence. -/
theorem consecutiveUpTo_nodup {x : Half} {l : List SentNote} (h : consecutiveUpTo x l) (hl : l.length ≤ 4) :
    (l.map (·.sequence)).Nodup := by
  induction l with
  | nil => exact List.nodup_nil
  | cons b l ih =>
    have hlength : l.length + 1 ≤ 4 := hl
    refine List.nodup_cons.2 ⟨fun hb => ?_, ih h.2 (by omega)⟩
    obtain ⟨a, ha, he⟩ := List.mem_map.1 hb
    obtain ⟨k, hk, hd⟩ := consecutiveUpTo_distance h.2 ha
    have distances : x - BitVec.ofNat 16 (k + 1) = x - BitVec.ofNat 16 (l.length + 1) := by rw [← hd, ← h.1, he]
    generalize l.length = j at *
    bv_omega

/-- R168: the first send of the oldest unsent note. -/
theorem NoteLaw.firstSend (h : NoteLaw s) (hw : s.nu.inFlight.length < 4) (hm : s.ru.manager ≠ none) {rest : List Note}
    (hu : s.nu.unsent = n :: rest) : NoteLaw (s.withNu (s.nu.granted (.first n))) where
  depth := by
    have := h.depth
    simp only [NoteUnit.depth, hu, List.length_cons] at this
    simp only [NoteUnit.depth, NoteUnit.granted, State.withNu_nu, hu, List.tail_cons, List.length_append, List.length_cons, List.length_nil]
    omega
  window := by simpa [NoteUnit.granted, Nat.succ_le_iff] using hw
  unlike := by
    have := h.unlike
    rw [hu, List.pairwise_cons] at this
    simpa [NoteUnit.granted, hu] using this.2
  bound hb := absurd hb hm
  sequences := consecutiveUpTo_append h.sequences n _
  due_in_flight q hq := by
    obtain ⟨x, hx, he⟩ := h.due_in_flight q hq
    exact ⟨x, List.mem_append_left _ hx, he⟩
  due_once := h.due_once
  timer _ := by simp [NoteUnit.granted]
  lost := by
    refine ⟨by simp [NoteUnit.granted], fun x hx => ?_⟩
    obtain hx | hx := List.mem_append.1 hx
    · exact h.lost.2 x hx
    · rw [List.mem_singleton.1 hx]; exact h.lost.1

/-- R168: a resend takes its sequence out of the due set. -/
theorem NoteLaw.resend (h : NoteLaw s) (x : SentNote) : NoteLaw (s.withNu (s.nu.granted (.resend x))) :=
  { h with
    due_in_flight := fun q hq => h.due_in_flight q (List.mem_of_mem_filter hq)
    due_once := h.due_once.filter _ }

/-- What is offered: a note to be resent, or the oldest unsent note with room in the window (R167). -/
theorem noteOffer_some {o : Offer} (h : noteOffer s = some o) :
    (∃ x ∈ s.nu.inFlight, o = .resend x) ∨ (∃ n rest, s.nu.inFlight.length < 4 ∧ s.nu.unsent = n :: rest ∧ o = .first n) := by
  unfold noteOffer NoteUnit.offer NoteUnit.firstOffer at h
  split at h
  · split at h
    · obtain ⟨x, hx, rfl⟩ := Option.map_eq_some_iff.1 h
      exact .inl ⟨x, List.mem_of_find?_eq_some hx, rfl⟩
    · split at h
      · next hw =>
        obtain ⟨n, hn, rfl⟩ := Option.map_eq_some_iff.1 h
        obtain ⟨rest, hr⟩ := List.head?_eq_some_iff.1 hn
        exact .inr ⟨n, rest, hw, hr, rfl⟩
      · cases h
  · cases h

theorem NoteLaw.egressGrant (h : NoteLaw s) : NoteLaw (egressGrant s) := by
  unfold Machine.egressGrant grantTransit grantOriginated
  (repeat' split)
  · exact h
  · exact h
  · exact { h with }
  · exact { h with }
  · exact { h with }
  · next m o hm ho =>
    have bound : s.ru.manager ≠ none := by simp [hm]
    obtain ⟨x, -, rfl⟩ | ⟨n, rest, hw, hu, rfl⟩ := noteOffer_some ho
    · exact { h.resend x with }
    · exact { h.firstSend hw bound hu with }
  all_goals exact h

theorem NoteLaw.egressDone (h : NoteLaw s) : NoteLaw (egressDone s) := by
  have settled {u : State} (hu : NoteLaw u) : NoteLaw (settleIdlePort u) := by rw [settleIdlePort_frame]; exact { hu with }
  have freed : NoteLaw (s.withCi { s.ci with port := .free }) := { h with }
  have counted (c : EventClass) := clerical_noteLaw.event c freed
  unfold Machine.egressDone deliverDone
  split
  · exact h
  · refine settled ?_
    split
    · exact counted _
    · exact freed
    · exact NoteLaw.of_work (owned := []) freed (Work.refl _).setDone (by simp) (by simp)
    · unfold noteDone
      dsimp only
      split
      · next hn =>
        refine { counted .notesSent with timer := fun _ => ?_ }
        simpa using (Bool.and_eq_true_iff.1 hn).2
      · exact counted _

theorem NoteLaw.resendExpiry (h : NoteLaw s) : NoteLaw (resendExpiry s) := by
  unfold Machine.resendExpiry
  split
  · refine { h with due_in_flight := fun q hq => ?_, due_once := ?_, timer := fun ht => by simp [NoteUnit.allDue] at ht }
    · obtain hq | hq := List.mem_append.1 hq
      · exact h.due_in_flight q hq
      · exact List.mem_map.1 (List.mem_of_mem_filter hq)
    · refine List.nodup_append.2 ⟨h.due_once, (List.Nodup.filter _ ?_), fun a ha b hb e => ?_⟩
      · exact consecutiveUpTo_nodup h.sequences h.window
      · subst e
        simpa [ha] using List.of_mem_filter hb
  · exact h

/-- R171: what stays in flight stood behind the note acknowledged. -/
theorem dropThrough_some {x : Half} {l rest : List SentNote} (h : dropThrough x l = some rest) :
    ∃ ahead n, l = ahead ++ n :: rest ∧ n.sequence = x ∧ ∀ m ∈ ahead, m.sequence ≠ x := by
  induction l with
  | nil => exact absurd h (by simp [dropThrough])
  | cons a l ih =>
    unfold dropThrough at h
    split at h
    · next ha => exact ⟨[], a, by rw [Option.some.inj h]; rfl, ha, by simp⟩
    · next ha =>
      obtain ⟨ahead, n, rfl, hn, hb⟩ := ih h
      exact ⟨a :: ahead, n, rfl, hn, List.forall_mem_cons.2 ⟨ha, hb⟩⟩

theorem NoteLaw.acknowledge (h : NoteLaw s) {x : Half} {rest : List SentNote} (hr : dropThrough x s.nu.inFlight = some rest)
    (timer : Option Time) : NoteLaw (s.withNu (s.nu.acknowledge rest timer)) := by
  obtain ⟨ahead, n, hl, -, -⟩ := dropThrough_some hr
  have hlength : ahead.length + (rest.length + 1) = s.nu.inFlight.length := by simp [hl]
  have hdepth : s.nu.inFlight.length + s.nu.unsent.length ≤ 32 := h.depth
  have hwindow := h.window
  have inFlight {y : SentNote} (hy : y ∈ rest) : y ∈ s.nu.inFlight := by simp [hl, hy]
  refine { h with
    depth := ?_, window := ?_, bound := fun hb => ?_, sequences := ?_, due_in_flight := fun q hq => ?_, due_once := ?_
    timer := fun ht => ?_, lost := ⟨h.lost.1, fun y hy => h.lost.2 y (inFlight hy)⟩ }
  · simp only [NoteUnit.depth, NoteUnit.acknowledge, State.withNu_nu]; omega
  · simp only [NoteUnit.acknowledge, State.withNu_nu]; omega
  · rw [h.bound hb] at hl; simp at hl
  · have sequences := h.sequences
    rw [hl, List.append_cons] at sequences
    exact consecutiveUpTo_suffix sequences
  · have hq : q ∈ s.nu.due.filter (fun q => rest.any (fun n => n.sequence = q)) := hq
    obtain ⟨x, hx, e⟩ := List.any_eq_true.1 (List.mem_filter.1 hq).2
    exact ⟨x, hx, by simpa using e⟩
  · exact List.Pairwise.filter _ h.due_once
  · intro hn
    simp [NoteUnit.acknowledge, show rest = [] from hn] at ht

/-! ## Merging the reverted notes (R174) -/

/-- R174: one note of the list is merged into the notes before it, or joins them. -/
def mergeOne (acc : List Note) (n : Note) : List Note := if acc.any (fun m => m.alike n) then mergeInto n acc else acc ++ [n]

theorem mergeAlike_eq (l : List Note) : mergeAlike l = l.foldl mergeOne [] := rfl

/-- A property of the merged notes that merging one more note keeps, under what the notes before it are. -/
theorem mergeOne_cases (acc : List Note) (n : Note) :
    ((∃ m ∈ acc, m.alike n = true) ∧ mergeOne acc n = mergeInto n acc) ∨ ((∀ m ∈ acc, m.alike n = false) ∧ mergeOne acc n = acc ++ [n]) := by
  unfold mergeOne
  split
  · next h => exact .inl ⟨List.any_eq_true.1 h, rfl⟩
  · next h => exact .inr ⟨by simpa using h, rfl⟩

theorem mergeOne_unlike {acc : List Note} (h : Unlike acc) (n : Note) : Unlike (mergeOne acc n) := by
  obtain ⟨-, e⟩ | ⟨hn, e⟩ := mergeOne_cases acc n <;> rw [e]
  · exact mergeInto_unlike h
  · exact append_unlike h hn

theorem mergeOne_length (acc : List Note) (n : Note) : (mergeOne acc n).length ≤ acc.length + 1 := by
  obtain ⟨-, e⟩ | ⟨-, e⟩ := mergeOne_cases acc n <;> rw [e] <;> simp [mergeInto]

theorem foldl_mergeOne_unlike (l : List Note) {acc : List Note} (h : Unlike acc) : Unlike (l.foldl mergeOne acc) := by
  induction l generalizing acc with
  | nil => exact h
  | cons n l ih => exact ih (mergeOne_unlike h n)

theorem foldl_mergeOne_length (l acc : List Note) : (l.foldl mergeOne acc).length ≤ acc.length + l.length := by
  induction l generalizing acc with
  | nil => simp
  | cons n l ih =>
    have first := mergeOne_length acc n
    have later := ih (mergeOne acc n)
    simp only [List.foldl_cons, List.length_cons]
    omega

theorem mergeAlike_unlike (l : List Note) : Unlike (mergeAlike l) := foldl_mergeOne_unlike l .nil
theorem mergeAlike_length (l : List Note) : (mergeAlike l).length ≤ l.length := by
  rw [mergeAlike_eq]
  simpa using foldl_mergeOne_length l []

theorem NoteLaw.unbind (h : NoteLaw s) (x : RequestUnit) : NoteLaw ((s.withRu x).withNu s.nu.unbind) where
  depth := by
    have hdepth : s.nu.inFlight.length + s.nu.unsent.length ≤ 32 := h.depth
    have merged := mergeAlike_length (s.nu.inFlight.map (·.note) ++ s.nu.unsent)
    simp only [List.length_append, List.length_map] at merged
    simp only [NoteUnit.depth, NoteUnit.unbind, State.withNu_nu, List.length_nil]
    omega
  window := by simp [NoteUnit.unbind]
  unlike := mergeAlike_unlike _
  bound _ := rfl
  sequences := trivial
  due_in_flight _ hq := absurd hq List.not_mem_nil
  due_once := List.nodup_nil
  timer ht := by simp [NoteUnit.unbind] at ht
  lost := ⟨Nat.min_le_left _ _, fun _ hn => absurd hn List.not_mem_nil⟩

/-- A queue with nothing in flight and at most one note. -/
theorem NoteLaw.fresh (hi : s.nu.inFlight = []) (hu : s.nu.unsent.length ≤ 1) (hd : s.nu.due = []) (ht : s.nu.resendTimer = none)
    (hl : s.nu.lost = 0) : NoteLaw s where
  depth := by simp [NoteUnit.depth, hi]; omega
  window := by simp [hi]
  unlike := by
    match hs : s.nu.unsent with
    | [] => exact .nil
    | [a] => exact List.pairwise_singleton _ _
    | a :: b :: l => simp [hs] at hu
  bound _ := hi
  sequences := by rw [hi]; trivial
  due_in_flight q hq := by simp [hd] at hq
  due_once := by simp [hd]
  timer h := by simp [ht] at h
  lost := ⟨by omega, by simp [hi]⟩

theorem restartBlocks_noteLaw (s : State) : NoteLaw (restartBlocks s) := .fresh rfl (Nat.le_refl 1) rfl rfl rfl
theorem clearBlocks_noteLaw (s : State) : NoteLaw (clearBlocks s) := .fresh rfl (Nat.zero_le 1) rfl rfl rfl
theorem cold_noteLaw {a : BitVec 7} {p : List Instr} {x : List Turn} : NoteLaw (((State.cold a).withPending p).withTurns x) :=
  .fresh rfl (Nat.zero_le 1) rfl rfl rfl

/-! ## Every command keeps the law of the Note Queue -/

/-- A step takes the command at the front, on a state that differs in the queue of commands only, or idles. -/
theorem step_keeps {P : State → Prop} (queue : ∀ s l, P s → P (s.withPending l)) (command : ∀ c s t, exec c s = .next t → P s → P t)
    (h : P s) (ht : step s = .next t) : P t := by
  unfold step at ht
  split at ht
  · exact Host.Outcome.next.inj ht ▸ h
  · exact command _ _ t ht (queue s _ h)

theorem exec_keeps_noteLaw (c : Instr) (s t : State) (ht : exec c s = .next t) (h : NoteLaw s) : NoteLaw t := by
  by_cases hplain : (∀ a, c ≠ .coldReset a) ∧ .notes ∉ owns c ∧ .manager ∉ owns c
  · obtain ⟨cold, notes, manager⟩ := hplain
    obtain ⟨u, hu, hw⟩ := exec_work c s cold
    cases hu.symm.trans ht
    exact h.of_work hw notes manager
  · cases c
    case coldReset a => cases ht; exact cold_noteLaw
    case bind =>
      cases ht
      refine clerical_noteLaw.takeRequest (fun q u hu => ?_) h
      obtain hr | ⟨-, hr⟩ := ownBind_leaves q u <;> rw [hr]
      · exact hu
      · exact { hu with bound := fun hb => absurd hb (by simp) }
    case unbind =>
      cases ht
      refine clerical_noteLaw.takeRequest (fun q u hu => ?_) h
      obtain hr | hr := ownUnbind_leaves q u <;> rw [hr]
      · exact hu
      · exact hu.unbind _
    case restart =>
      cases ht
      refine clerical_noteLaw.takeRequest (fun q u hu => ?_) h
      exact (restartBlocks_noteLaw u).of_work (owned := [])
        (Work.signalTimes ((Work.refl _).forEach fun _ _ h => h.restartRegulator)) (by simp) (by simp)
    case clearAll =>
      cases ht
      refine clerical_noteLaw.takeRequest (fun q u hu => ?_) h
      exact (clearBlocks_noteLaw u).of_work (owned := []) (Work.refl _).signalTimes (by simp) (by simp)
    case ackNotes =>
      cases ht
      refine clerical_noteLaw.takeRequest (fun q u hu => ?_) h
      obtain hr | ⟨x, rest, hd, hr⟩ := ownAckNotes_leaves q u <;> rw [hr]
      · exact hu
      · exact hu.acknowledge hd _
    case egressGrant => cases ht; exact h.egressGrant
    case egressDone => cases ht; exact h.egressDone
    case resendTimerExpiry => cases ht; exact h.resendExpiry
    all_goals simp [owns] at hplain

/-- Settles O5: the note operations keep the law one by one, and every other command only raises notes. -/
theorem noteLawIsKept : Obligations.NoteLawIsKept :=
  fun _ _ h ht => step_keeps (fun _ _ h => { h with }) exec_keeps_noteLaw h ht

/-! ## The sweep in progress (R179, R180) -/

/-- The sweep between two visits of one expiry: the law but that the last index may have been visited. -/
def Sweep.Running (d : Sweep) : Prop :=
  d.first ≤ d.next ∧ d.next ≤ d.last + 1 ∧ d.last ≤ 255 ∧ (d.stats = true ∨ d.rebase = true) ∧ d.visited ≤ d.next - d.first
    ∧ d.stepTimer.isSome

theorem visitRecord_sweep (d : Sweep) (i : Fin 256) (s : State) : (visitRecord d i s).sweep = s.sweep := by
  unfold visitRecord; dsimp only; (repeat' split) <;> simp

theorem visit_running (h : ∀ d, s.sweep = some d → d.Running) : ∀ d, (visit s).sweep = some d → d.Running := by
  unfold visit
  split
  · exact h
  · next d hd =>
    split
    · exact h
    · split
      · next hle =>
        rintro _ ⟨⟩
        obtain ⟨hfirst, -, hlast, hact, hvisited, htimer⟩ := h d hd
        refine ⟨Nat.le_succ_of_le hfirst, Nat.succ_le_succ hle, hlast, hact, ?_, htimer⟩
        dsimp only
        split <;> omega
      · exact h

theorem SweepLaw.sweepStep (h : SweepLaw s) : SweepLaw (sweepStep s) := by
  unfold Machine.sweepStep
  split
  · exact h
  · split
    · have running : ∀ d, (Nat.repeat visit Config.sweepBatch s).sweep = some d → d.Running :=
        repeat_keeps visit (fun u => ∀ d, u.sweep = some d → d.Running) (fun _ hu => visit_running hu) _ fun d hd => by
          obtain ⟨hfirst, hnext, hrest⟩ := h d hd
          exact ⟨hfirst, Nat.le_succ_of_le hnext, hrest⟩
      unfold sweepAfterVisits
      split
      · next hn => intro d hd; rw [hn] at hd; cases hd
      · next d hd =>
        split
        · next hle =>
          rintro _ ⟨⟩
          obtain ⟨hfirst, -, hlast, hact, hvisited, -⟩ := running d hd
          exact ⟨hfirst, hle, hlast, hact, hvisited, rfl⟩
        · intro d' hd'
          simp at hd'
    · exact h

theorem SweepLaw.of_sweep_none (h : s.sweep = none) : SweepLaw s := fun d hd => by rw [h] at hd; cases hd

theorem SweepLaw.congr (h : SweepLaw s) (e : t.sweep = s.sweep) : SweepLaw t := fun d hd => h d (e.symm.trans hd)

theorem clerical_sweepLaw : Clerical SweepLaw where
  book _ h := h
  event _ h := h.congr (signal_sweep _ _)

/-- R179: an accepted sweep begins at its first index. -/
theorem sweepStart_lawful {q : Request} {now : Time}
    (h : sweepInRange (num16At q.payload 1) (num16At q.payload 3) (numAt q.payload 5) = true) :
    SweepLaw (s.withSweep (some (sweepStart q now))) := by
  rintro _ ⟨⟩
  simp only [sweepInRange, Bool.and_eq_true, decide_eq_true_eq] at h
  obtain ⟨⟨⟨hrange, hlast⟩, hlow⟩, hhigh⟩ := h
  refine ⟨Nat.le_refl _, hrange, hlast, ?_, Nat.zero_le _, rfl⟩
  show (byteAt q.payload 5).getLsbD 0 = true ∨ (byteAt q.payload 5).getLsbD 1 = true
  unfold numAt at hlow hhigh
  generalize byteAt q.payload 5 = b at *
  have : b = 1#8 ∨ b = 2#8 ∨ b = 3#8 := by bv_omega
  obtain rfl | rfl | rfl := this <;> decide

theorem exec_keeps_sweepLaw (c : Instr) (s t : State) (ht : exec c s = .next t) (h : SweepLaw s) : SweepLaw t := by
  by_cases hplain : (∀ a, c ≠ .coldReset a) ∧ .sweep ∉ owns c
  · obtain ⟨u, hu, hw⟩ := exec_work c s hplain.1
    cases hu.symm.trans ht
    exact h.congr (hw.sweep hplain.2)
  · cases c
    case coldReset a => cases ht; exact .of_sweep_none rfl
    case restart =>
      cases ht
      refine clerical_sweepLaw.takeRequest (fun q u hu => .of_sweep_none ?_) h
      exact (Work.signalTimes (owned := []) ((Work.refl (restartBlocks u)).forEach fun _ _ h => h.restartRegulator)).sweep (by simp)
    case clearAll =>
      cases ht
      refine clerical_sweepLaw.takeRequest (fun q u hu => .of_sweep_none ?_) h
      exact (Work.signalTimes (owned := []) (Work.refl (clearBlocks u))).sweep (by simp)
    case sweep =>
      cases ht
      refine clerical_sweepLaw.takeRequest (fun q u hu => ?_) h
      obtain ⟨hr, -⟩ | ⟨hrange, -, -, hr⟩ := ownSweep_leaves q u <;> rw [hr]
      · exact hu
      · exact sweepStart_lawful hrange
    case sweepStepExpiry => cases ht; exact h.sweepStep
    all_goals simp [owns] at hplain

/-- Settles O13: the visits of an expiry keep the sweep running, and no command but five touches it. -/
theorem sweepLawIsKept : Obligations.SweepLawIsKept :=
  fun _ _ h ht => step_keeps (fun _ _ h => h) exec_keeps_sweepLaw h ht

end Sys2Proof.Machine
end

section
/-! The part after a cold reset: its values (O3) and the laws of Safety.lean, which hold of it (O4). -/

namespace Sys2Proof.Machine
open Sys2Proof.Claims

variable {s : State} {a : BitVec 7}

/-- Settles O3: the meaning of COLD_RESET is the cold state, field by field. -/
theorem coldResetValues : Obligations.ColdResetValues := by
  intro a s
  refine ⟨_, rfl, rfl, rfl, State.cold_point a, State.cold_reg a, rfl, State.cold_sup a, State.cold_chan a, rfl, rfl, rfl, fun k => ?_,
    rfl, rfl, rfl⟩
  simp [State.cold, TrafficCounters.cleared, State.withPending, State.withTurns, Counter.off]

/-! ## Tables of default records -/

theorem regulator_default_lawful : Regulator.default.Lawful where
  ranges := by constructor <;> simp [Regulator.default, RegulatorConfig.default]
  manual := by simp [Regulator.default]
  handover := by simp [Regulator.default]
  timer := by simp [Regulator.default, RegulatorState.controlling]
  output := by simp [Regulator.default, RegulatorState.controlling]
  enabled h := absurd rfl h

/-- R91: a table of default regulators names nothing. -/
theorem RegulatorLaw.of_default (h : ∀ r, s.reg r = Regulator.default) : RegulatorLaw s where
  records r := by rw [h r]; exact regulator_default_lawful
  inputs r i hi := by simp [h r, Regulator.default, RegulatorConfig.default] at hi
  feedback r i hi := by simp [h r, Regulator.default, RegulatorConfig.default, Regulator.feedsBack, Regulator.configured] at hi
  channels r q c hr _ := by simp [h r, Regulator.default, RegulatorConfig.default, Regulator.namesChannel, Regulator.configured] at hr
  bound r hr := absurd (by rw [h r]; rfl) hr

theorem channel_default_lawful : Channel.default.Lawful := by
  constructor <;> simp [Channel.default, Channel.exchangeOpen]

/-- R133: a table of unbound channels in IDLE, none of them told faulted. -/
theorem ChannelLaw.of_default (h : ∀ c, s.chan c = Channel.default) (alert : s.nu.alert.faulted = []) : ChannelLaw s where
  records c := by rw [h c]; exact channel_default_lawful
  bindings c _ hc := by simp [h c, Channel.default, Channel.bound] at hc
  wire c hc := by simp [h c, Channel.default] at hc
  alert c := by simp [h c, Channel.default, Channel.faulted, alert]

theorem LevelLaw.of_default (h : ∀ c, s.chan c = Channel.default) : LevelLaw s := fun c => by simp [h c, Channel.default]

theorem SupervisorLaw.of_reset (h : ∀ r, s.sup r = Supervisor.reset) (alert : s.nu.alert.stalled = []) : SupervisorLaw s where
  inactive r _ := h r
  window r hr := by simp [h r, Supervisor.reset] at hr
  alert r := by simp [h r, Supervisor.reset, alert]

theorem PointLaw.of_empty (h : ∀ i, s.point i = none) : PointLaw s where
  keys i _ _ _ hi := by simp [h i] at hi
  records i _ hi := by simp [h i] at hi

/-- R110: no point is critical, the phase is CLEAR and no regulator stands in OVERRIDE. -/
theorem OverrideLaw.of_clear {k : Nat} (h : s.om = OverrideMonitor.cleared k) (hr : ∀ r, (s.reg r).state ≠ .override)
    (alert : s.nu.alert.override = false) : OverrideLaw s := by
  constructor <;> simp [h, OverrideMonitor.cleared, alert, hr]

/-- With nothing in HANDOVER and no sweep in progress no entry waits for a completion. -/
theorem awaited_eq_nil (hr : ∀ r, (s.reg r).handover = none) (hs : s.sweep = none) : awaited s = [] := by
  simp [awaited, hr, hs]

/-! ## The laws after a cold reset -/

theorem cold_requestLaw : RequestLaw (State.cold a) := by
  have waiting : awaited (State.cold a) = [] := awaited_eq_nil (by simp [Regulator.default]) rfl
  have unit : (State.cold a).ru = RequestUnit.cold := rfl
  constructor <;> simp [waiting, unit, RequestUnit.cold, RequestUnit.pendingCount]

theorem cold_chainLaw : ChainLaw (State.cold a) := by
  constructor <;> simp [State.cold, ChainInterface.cold]

theorem cold_inv (a : BitVec 7) : Inv (State.cold a) where
  notes := .fresh rfl (Nat.zero_le 1) rfl rfl rfl
  override := .of_clear (k := 10) rfl (by simp [Regulator.default]) rfl
  points := .of_empty (State.cold_point a)
  regulators := .of_default (State.cold_reg a)
  channels := .of_default (State.cold_chan a) rfl
  levels := .of_default (State.cold_chan a)
  supervisors := .of_reset (State.cold_sup a) rfl
  requests := cold_requestLaw
  sweep := .of_sweep_none rfl
  chain := cold_chainLaw
  transparent _ := ⟨rfl, rfl, .inl rfl⟩

/-- Settles O4: law by law, from the values after a cold reset. -/
theorem everyLawHoldsAtReset : Obligations.EveryLawHoldsAtReset := ⟨cold_inv, rfl, cold_inv _⟩

end Sys2Proof.Machine
end

section
/-! The Timebase and its timers (O17), and the commands that come out of turn (O30). -/

namespace Sys2Proof.Machine
open Sys2Proof.Claims

variable {s : State} {i : Instr} {q : Request} {rest : List Request}

/-! ## Timers (R195) -/

/-- Up to half the Timebase's range behind it an expiry time counts as passed. -/
theorem timerDue_iff (now e : Time) : timerDue now (some e) = true ↔ (now - e).toNat < 2147483648 := by
  simp [timerDue, BitVec.msb_eq_decide]

theorem timerDue_elapsed {start : Time} {ms elapsed : Nat} (hms : ms ≤ 60000) (he : elapsed < 2147483648) :
    timerDue (start + BitVec.ofNat 32 elapsed) (some (start + BitVec.ofNat 32 ms)) = true ↔ ms ≤ elapsed := by
  rw [timerDue_iff]
  simp only [BitVec.toNat_sub, BitVec.toNat_add, BitVec.toNat_ofNat]
  have := start.isLt
  omega

/-- Settles O17: the count by its carry, the timers by the difference modulo 2^32. -/
theorem timebaseAdvances : Obligations.TimebaseAdvances := by
  refine ⟨fun s => ⟨rfl, ?_⟩, fun start ms elapsed => timerDue_elapsed, timerDue_iff, fun now => rfl⟩
  have := s.timebase.isLt
  have one : (1 : Time).toNat = 1 := rfl
  rw [BitVec.toNat_add, one]
  split <;> omega

/-! ## Requests that are not taken (R146) -/

/-- With no READ_STATUS in execution, or for another command, a command that takes requests takes those it is the command of. -/
theorem exec_of_takesRequests (ht : TakesRequests i) (hx : i ≠ .readStatus ∨ s.ru.execution = none) :
    ∃ accepts owner, (∀ q, accepts q = true → Takes i q) ∧ exec i s = .next (takeRequest accepts owner s) := by
  have code (c : RequestCode) (q : Request) (h : hasCode c q = true) : Takes (commandOf c) q :=
    .inl ⟨c, rfl, Request.code?_eq_some_iff.1 (by simpa [hasCode] using h)⟩
  obtain ⟨c, rfl⟩ | rfl := ht
  · cases c
    case readStatus =>
      obtain ⟨x, hx', -⟩ | ⟨-, h⟩ := execReadStatus_cases s
      · simp [hx', commandOf] at hx
      · exact ⟨_, _, code _, h⟩
    all_goals exact ⟨_, _, code _, rfl⟩
  · exact ⟨_, _, fun q hq => .inr ⟨rfl, Request.code?_eq_none_iff.1 (by simpa using hq)⟩, rfl⟩

/-- Settles O30: the request commands by what blocks taking one, the events by the guard of each. -/
theorem nothingHappensOutOfTurn : Obligations.NothingHappensOutOfTurn := by
  refine ⟨fun i s ht hx => ?requests, fun s => ?events⟩
  case requests =>
    obtain ⟨accepts, owner, ha, he⟩ := exec_of_takesRequests ht hx
    refine ⟨fun h => ?_, fun q rest hq hn => ?_⟩ <;> rw [he]
    · obtain h | h | h | h := h
      · rw [takeRequest_empty _ _ h]
      · rw [takeRequest_blocked _ _ (.inl (Option.isSome_iff_ne_none.2 h))]
      · rw [takeRequest_blocked _ _ (.inr h)]
      · rw [takeRequest_executing _ _ (Option.isSome_iff_ne_none.2 h)]
    · rw [takeRequest_other _ _ hq (Bool.eq_false_iff.2 fun h => hn (ha q h))]
  case events =>
    refine ⟨fun ha hw => ?_, fun h => ?_, fun h => ?_, fun h => ?_, fun h => ?_, fun h => ?_, fun i h => ?_, fun r h => ?_, fun r h => ?_,
      fun c h => ?_, fun c h => ?_, fun h => ?_⟩ <;> refine congrArg Host.Outcome.next ?_
    · simp [frameEnd, takeAwaiting, ha, hw]
    · unfold egressGrant
      obtain h | h := h <;> simp [h]
    · simp [egressDone, h]
    · unfold linkDownExpiry
      split
      · rfl
      · next e he => rw [he] at h; simp [h]
    · simp [holdExpiry, h]
    · simp [resendExpiry, h]
    · unfold stalenessExpiry
      split
      · rfl
      · next p hp => simp [h p hp]
    · simp [periodExpiry, h]
    · simp [windowExpiry, h]
    · simp [ackExpiry, h]
    · simp [probeExpiry, h]
    · unfold sweepStep
      split
      · rfl
      · next d hd => simp [h d hd]

end Sys2Proof.Machine
end

section
/-! The Note Unit and the Traffic Counters, event by event: O54, O55, O56. -/

namespace Sys2Proof.Machine
open Sys2Proof.Claims

variable {s : State} {u : NoteUnit} {n m : Note} {q : Request} {rest : List Request}

/-! ## Raising a note (R163 to R166) -/

theorem raise_of_settle (kind : NoteKind) (subject : Option Nat) (value : Int) (severity : Severity) {v : NoteUnit} {lost : Bool}
    (h : s.nu.settle ⟨kind, subject, value, severity, s.timebase⟩ = (v, lost)) :
    raise kind subject value severity s = if lost then signal .notesEvicted (s.withNu v) else s.withNu v := by
  unfold raise; rw [h]

theorem raise_of_kept {kind : NoteKind} {subject : Option Nat} {value : Int} {severity : Severity}
    (h : (s.nu.settle ⟨kind, subject, value, severity, s.timebase⟩).2 = false) :
    raise kind subject value severity s = s.withNu (s.nu.settle ⟨kind, subject, value, severity, s.timebase⟩).1 := by
  unfold raise
  dsimp only
  rw [h]
  rfl

/-- Of two places at which a note of some kind stands first in a list, there is one. -/
theorem split_unique {α : Type} {p : α → Prop} {b b' a a' : List α} {x y : α} (h : b ++ x :: a = b' ++ y :: a') (hx : p x) (hy : p y)
    (hb : ∀ z ∈ b, ¬ p z) (hb' : ∀ z ∈ b', ¬ p z) : b = b' ∧ x = y ∧ a = a' := by
  induction b generalizing b' with
  | nil =>
    cases b' with
    | nil => simpa using h
    | cons z b' => simp only [List.nil_append, List.cons_append, List.cons.injEq] at h; exact absurd (h.1 ▸ hx) (hb' z (by simp))
  | cons z b ih =>
    cases b' with
    | nil => simp only [List.nil_append, List.cons_append, List.cons.injEq] at h; exact absurd (h.1 ▸ hy) (hb z (by simp))
    | cons w b' =>
      simp only [List.cons_append, List.cons.injEq] at h
      obtain ⟨hbb, hxy, haa⟩ := ih h.2 (fun v hv => hb v (List.mem_cons_of_mem _ hv)) fun v hv => hb' v (List.mem_cons_of_mem _ hv)
      exact ⟨by rw [h.1, hbb], hxy, haa⟩

/-- Settles O54: the four ends of a settled note, in the words of the statement. -/
theorem raisedNotes : Obligations.RaisedNotes := by
  intro kind subject value severity s n alike lost raised
  have alike_iff (m : Note) : m.alike n = true ↔ alike m := Note.alike_iff
  have unlike_iff : (∀ m ∈ s.nu.unsent, m.alike n = false) ↔ ∀ m ∈ s.nu.unsent, ¬ alike m := by
    simp only [← alike_iff, Bool.not_eq_true]
  have raised_eq {v : NoteUnit} {lost : Bool} (h : s.nu.settle n = (v, lost)) :
      raised = if lost then signal .notesEvicted (s.withNu v) else s.withNu v := raise_of_settle kind subject value severity h
  obtain ⟨⟨a, ha, haa⟩, hs⟩ | ⟨hn, hd, hs⟩ | ⟨hn, hd, ⟨before, b, after, hl, hb, hbefore, hs⟩ | ⟨hall, hs⟩⟩ := settle_cases n s.nu <;>
    rw [raised_eq hs]
  · refine ⟨fun _ => ?_, fun h => ?_, fun _ _ _ h => ?_, fun h => ?_⟩
    · have merged : mergeInto n s.nu.unsent = s.nu.unsent.map (fun m => if alike m then { m with
          value := value, timestamp := s.timebase
          severity := if m.severity.code < severity.code then severity else m.severity } else m) := by
        refine List.map_congr_left fun m _ => ?_
        simp only [alike_iff]
        rfl
      simp only [merged]
      rfl
    all_goals exact absurd ((alike_iff a).1 haa) (h a ha)
  · refine ⟨fun ⟨m, hm, hma⟩ => absurd hma (unlike_iff.1 hn m hm), fun _ _ => rfl, fun _ _ _ _ h => ?_, fun _ h => ?_⟩
    all_goals exact absurd hd (Nat.not_lt.2 h)
  · refine ⟨fun ⟨m, hm, hma⟩ => absurd hma (unlike_iff.1 hn m hm), fun _ h => absurd h (Nat.not_lt.2 hd), fun b' m a' _ _ hl' hb' hm' => ?_,
      fun _ _ h => ?_⟩
    · obtain ⟨rfl, rfl, rfl⟩ := split_unique (p := fun x => x.severity.code < severity.code) (hl.symm.trans hl') hb hm'
        (fun z hz => Nat.not_lt.2 (hbefore z hz)) fun z hz => Nat.not_lt.2 (hb' z hz)
      rfl
    · exact absurd hb (Nat.not_lt.2 (h b (by simp [hl])))
  · refine ⟨fun ⟨m, hm, hma⟩ => absurd hma (unlike_iff.1 hn m hm), fun _ h => absurd h (Nat.not_lt.2 hd), fun b' m a' _ _ hl' _ hm' => ?_,
      fun _ _ _ => rfl⟩
    exact absurd hm' (Nat.not_lt.2 (hall m (by simp [hl'])))

/-! ## Counting an event (R187, R188) -/

/-- The COUNTER notes of an event and the counters after it, where no note is lost. -/
theorem signal_of_kept {c : EventClass} {l : List (Fin 4)} {v : NoteUnit}
    (hl : (s.counters.overflowing c).filter (fun i => s.counters.counter[i].noteOnOverflow) = l)
    (hr : raiseCounterNotes c s.timebase l s.nu = (v, 0)) :
    signal c s = (s.withCounters (s.counters.count c)).withNu v := by
  show signalTo 5 c s = _
  unfold signalTo
  simp only [hl, hr]
  rfl

theorem overflows_iff {c : EventClass} {k : Counter} : k.overflows c = true ↔ k.selector = some c ∧ k.value = 2147483647#32 := by
  unfold Counter.overflows
  rw [Bool.and_eq_true]
  exact and_congr decide_eq_true_iff decide_eq_true_iff

theorem overflowing_eq_nil {c : EventClass} {t : TrafficCounters} (h : ∀ i : Fin 4, t.counter[i].overflows c = false) :
    t.overflowing c = [] := by
  unfold TrafficCounters.overflowing
  split
  · rfl
  · exact List.filter_eq_nil_iff.2 fun i _ => by simpa using h i

theorem overflowing_eq_single {c : EventClass} {t : TrafficCounters} {i : Fin 4} (ht : t.frozen = false)
    (hi : t.counter[i].overflows c = true) (h : ∀ j, j ≠ i → t.counter[j].overflows c = false) : t.overflowing c = [i] := by
  have only (j : Fin 4) : t.counter[j].overflows c = decide (j = i) := by
    by_cases e : j = i
    · simp only [e, hi, decide_true]
    · rw [h j e, decide_eq_false e]
  have single : ∀ i : Fin 4, (List.finRange 4).filter (fun j => decide (j = i)) = [i] := by decide
  unfold TrafficCounters.overflowing
  rw [ht, if_neg Bool.false_ne_true, List.filter_congr fun j _ => only j]
  exact single i

/-- Below 32 notes no note is lost. -/
theorem settle_kept (h : u.depth < 32) : (u.settle n).2 = false := by
  obtain ⟨-, hs⟩ | ⟨-, -, hs⟩ | ⟨-, hd, -⟩ := settle_cases n u
  · rw [hs]
  · rw [hs]
  · exact absurd h (Nat.not_lt.2 hd)

/-! ## WRITE_COUNTERS (R189) -/

theorem execWriteCounters_cases (hq : Ready q rest s) (hc : Carries q 66 25) :
    (counterEntries? q.payload = none → exec .writeCounters s = .next (refusedWith q .range (taken rest s))) ∧
    (∀ v, counterEntries? q.payload = some v →
      exec .writeCounters s = .next (answered q .ok [] { taken rest s with counters := { counter := v, frozen := false } })) := by
  have hx : Executable .writeCounters q rest s := executable_of_ready hq hc rfl
  refine ⟨fun h => hx.next_refused (u := taken rest s) ?_ (by decide), fun v h => hx.next_answered ?_⟩
  · simp only [ownWriteCounters, h]
  · simp only [ownWriteCounters, h]; rfl

/-- Settles O55: the counters that overflow decide the notes, and none of the notes is lost below 32. -/
theorem countedEvents : Obligations.CountedEvents := by
  refine ⟨fun c s => ?_, fun q rest s => execWriteCounters_cases⟩
  intro after overflows
  have quiet (i : Fin 4) (h : ¬ overflows i) : s.counters.counter[i].overflows c = false :=
    Bool.eq_false_iff.2 (mt overflows_iff.1 h)
  have counted (h : s.counters.frozen = false) : s.withCounters (s.counters.count c) =
      after ((s.counters.overflowing c).any fun i => s.counters.counter[i].freezeOnOverflow) := by
    simp only [TrafficCounters.count, h]
    rfl
  refine ⟨fun h => ?frozen, fun h hn => ?quiet, fun i h hi hj => ⟨fun hnote => ?silent, fun hnote hd => ?noting⟩⟩
  case frozen =>
    have none_noting : (s.counters.overflowing c).filter (fun i => s.counters.counter[i].noteOnOverflow) = [] := by
      simp [TrafficCounters.overflowing, h]
    rw [signal_of_kept none_noting rfl]
    simp only [TrafficCounters.count, h]
    rfl
  case quiet =>
    have none_over : s.counters.overflowing c = [] := overflowing_eq_nil fun i => quiet i (hn i)
    rw [signal_of_kept (l := []) (by rw [none_over]; rfl) rfl, counted h, none_over]
    rfl
  all_goals
    have one_over : s.counters.overflowing c = [i] :=
      overflowing_eq_single h (overflows_iff.2 hi) fun j hji => quiet j (hj j hji)
    have count_eq := counted h
    rw [one_over, List.any_cons, List.any_nil, Bool.or_false] at count_eq
  case silent =>
    rw [signal_of_kept (l := []) (by rw [one_over]; simpa using hnote) rfl, count_eq]
    rfl
  case noting =>
    have kept : (s.nu.settle (counterNote c s.timebase i)).2 = false := settle_kept hd
    have raised : raiseCounterNotes c s.timebase [i] s.nu = ((s.nu.settle (counterNote c s.timebase i)).1, 0) := by
      simp [raiseCounterNotes, kept]
    rw [signal_of_kept (by rw [one_over]; simpa using hnote) raised, count_eq]
    exact (raise_of_kept (s := after s.counters.counter[i].freezeOnOverflow) kept).symm

/-! ## Resends and acknowledgements (R170, R171) -/

theorem dropThrough_none {x : Half} {l : List SentNote} (h : ∀ n ∈ l, n.sequence ≠ x) : dropThrough x l = none := by
  induction l with
  | nil => rfl
  | cons a l ih =>
    unfold dropThrough
    rw [if_neg (h a (by simp)), ih fun n hn => h n (List.mem_cons_of_mem a hn)]

theorem dropThrough_append {x : Half} {ahead behind : List SentNote} {n : SentNote} (hn : n.sequence = x)
    (h : ∀ m ∈ ahead, m.sequence ≠ x) : dropThrough x (ahead ++ n :: behind) = some behind := by
  induction ahead with
  | nil => simp [dropThrough, hn]
  | cons a l ih =>
    rw [List.cons_append]
    unfold dropThrough
    rw [if_neg (h a (by simp)), ih fun n hn => h n (List.mem_cons_of_mem a hn)]

/-- Settles O56: the expiry by its guard, ACK_NOTES by the place of the sequence among the notes in flight. -/
theorem resendAndAcknowledge : Obligations.ResendAndAcknowledge := by
  refine ⟨fun s h => ?expiry, fun q rest s hq hc => ?acknowledge⟩
  case expiry =>
    refine congrArg Host.Outcome.next ?_
    unfold resendExpiry
    rw [if_pos h]
    simp only [NoteUnit.allDue, List.contains_eq_mem, decide_not]
    rfl
  case acknowledge =>
    have hx : Executable .ackNotes q rest s := executable_of_ready hq hc rfl
    refine ⟨fun h => hx.next_refused (u := taken rest s) ?_ (by decide), fun ahead n behind hl hn hahead => ?_⟩
    · have missing : dropThrough (halfAt q.payload 1) (taken rest s).nu.inFlight = none := dropThrough_none h
      simp only [ownAckNotes, missing]
    · have found : dropThrough (halfAt q.payload 1) (taken rest s).nu.inFlight = some behind := by
        show dropThrough _ s.nu.inFlight = _
        rw [hl]
        exact dropThrough_append hn hahead
      refine hx.next_answered ?_
      have removed : s.nu.inFlight.length - behind.length = ahead.length + 1 := by rw [hl]; simp; omega
      have removed' : (taken rest s).nu.inFlight.length - behind.length = ahead.length + 1 := removed
      simp only [ownAckNotes, found, removed', NoteUnit.acknowledge, List.isEmpty_iff]
      rfl

end Sys2Proof.Machine
end

section
/-! BIND and UNBIND (O57): what merging the reverted notes does to each of them (R174), one note at a time from the front. -/

namespace Sys2Proof.Machine
open Sys2Proof.Claims

variable {s : State} {n m a b c : Note} {l acc : List Note} {q : Request} {rest : List Request}

/-! ## Merging one more note -/

theorem mergeAlike_concat (l : List Note) (n : Note) : mergeAlike (l ++ [n]) = mergeOne (mergeAlike l) n := by
  simp [mergeAlike_eq, List.foldl_append]

theorem Note.alike_trans (hab : a.alike b = true) (hbc : b.alike c = true) : a.alike c = true := by
  rw [Note.alike_iff] at *
  exact ⟨hab.1.trans hbc.1, hab.2.trans hbc.2⟩

theorem Note.alike_symm (h : a.alike b = true) : b.alike a = true := by rwa [Note.alike_comm]

theorem Severity.le_max (a b : Severity) : a.code ≤ (a.max b).code ∧ b.code ≤ (a.max b).code := by
  cases a <;> cases b <;> decide

theorem Severity.max_eq (a b : Severity) : a.max b = a ∨ a.max b = b := by
  unfold Severity.max
  split
  · exact .inr rfl
  · exact .inl rfl

/-- A note among those merged so far, after one more note: it absorbs it or stays. -/
theorem mem_mergeOne_of_mem (hm : m ∈ acc) : (m.alike n = true ∧ m.absorb n ∈ mergeOne acc n) ∨ (m.alike n = false ∧ m ∈ mergeOne acc n) := by
  obtain ⟨-, e⟩ | ⟨hn, e⟩ := mergeOne_cases acc n <;> rw [e]
  · cases h : m.alike n
    · exact .inr ⟨rfl, List.mem_map.2 ⟨m, hm, by simp [h]⟩⟩
    · exact .inl ⟨rfl, List.mem_map.2 ⟨m, hm, by simp [h]⟩⟩
  · exact .inr ⟨hn m hm, List.mem_append_left _ hm⟩

/-- Every note after one more is the new one, or comes from a note before, which absorbs it or stays. -/
theorem mem_mergeOne (hm : m ∈ mergeOne acc n) :
    (m = n ∧ ∀ x ∈ acc, x.alike n = false) ∨ ∃ x ∈ acc, m = x ∨ (x.alike n = true ∧ m = x.absorb n) := by
  obtain ⟨-, e⟩ | ⟨hn, e⟩ := mergeOne_cases acc n <;> rw [e] at hm
  · obtain ⟨x, hx, rfl⟩ := List.mem_map.1 hm
    refine .inr ⟨x, hx, ?_⟩
    split
    · next h => exact .inr ⟨h, rfl⟩
    · exact .inl rfl
  · obtain hm | hm := List.mem_append.1 hm
    · exact .inr ⟨m, hm, .inl rfl⟩
    · exact .inl ⟨List.mem_singleton.1 hm, hn⟩

theorem absorb_alike (m n : Note) : (m.absorb n).alike m = true := Note.alike_iff.2 ⟨rfl, rfl⟩

/-- The new note is in the list as merged: itself, or absorbed by one alike to it. -/
theorem exists_mem_mergeOne (acc : List Note) (n : Note) : n ∈ mergeOne acc n ∨ ∃ x ∈ acc, x.alike n = true ∧ x.absorb n ∈ mergeOne acc n := by
  obtain ⟨⟨x, hx, ha⟩, -⟩ | ⟨-, e⟩ := mergeOne_cases acc n
  · obtain ⟨-, h⟩ | ⟨h, -⟩ := mem_mergeOne_of_mem (n := n) hx
    · exact .inr ⟨x, hx, ha, h⟩
    · exact absurd ha (by simp [h])
  · exact .inl (by rw [e]; simp)

/-! ## Merging a list -/

/-- Unlike notes are kept as they are. -/
theorem mergeAlike_of_unlike (h : Unlike l) : mergeAlike l = l := by
  induction l using List.reverseRecOn with
  | nil => rfl
  | append_singleton l n ih =>
    obtain ⟨hl, -, hn⟩ := List.pairwise_append.1 h
    rw [mergeAlike_concat, ih hl]
    obtain ⟨⟨x, hx, ha⟩, -⟩ | ⟨-, e⟩ := mergeOne_cases l n
    · exact absurd ha (by simp [hn x hx n (by simp)])
    · exact e

/-- Each note is merged into one alike to it and at least as severe. -/
theorem mergeAlike_covers (hn : n ∈ l) : ∃ m ∈ mergeAlike l, m.alike n = true ∧ n.severity.code ≤ m.severity.code := by
  induction l using List.reverseRecOn with
  | nil => exact absurd hn List.not_mem_nil
  | append_singleton l y ih =>
    rw [mergeAlike_concat]
    obtain hn | hn := List.mem_append.1 hn
    · obtain ⟨m, hm, ha, hs⟩ := ih hn
      obtain ⟨-, h⟩ | ⟨-, h⟩ := mem_mergeOne_of_mem (n := y) hm
      · exact ⟨_, h, Note.alike_trans (absorb_alike m y) ha, hs.trans (Severity.le_max _ _).1⟩
      · exact ⟨m, h, ha, hs⟩
    · obtain rfl := List.mem_singleton.1 hn
      obtain h | ⟨x, -, ha, h⟩ := exists_mem_mergeOne (mergeAlike l) n
      · exact ⟨n, h, Note.alike_refl n, Nat.le_refl _⟩
      · exact ⟨_, h, Note.alike_trans (absorb_alike x n) ha, (Severity.le_max _ _).2⟩

/-- Each merged note is alike to one of the list and has the severity of one alike to it. -/
theorem mergeAlike_comes_from (hm : m ∈ mergeAlike l) : ∃ n ∈ l, m.alike n = true ∧ n.severity = m.severity := by
  induction l using List.reverseRecOn generalizing m with
  | nil => exact absurd hm List.not_mem_nil
  | append_singleton l y ih =>
    rw [mergeAlike_concat] at hm
    obtain ⟨rfl, -⟩ | ⟨x, hx, h⟩ := mem_mergeOne hm
    · exact ⟨m, by simp, Note.alike_refl m, rfl⟩
    · obtain ⟨n, hn, ha, hs⟩ := ih hx
      obtain rfl | ⟨hy, rfl⟩ := h
      · exact ⟨n, List.mem_append_left _ hn, ha, hs⟩
      · obtain e | e := Severity.max_eq x.severity y.severity
        · exact ⟨n, List.mem_append_left _ hn, Note.alike_trans (absorb_alike x y) ha, hs.trans e.symm⟩
        · exact ⟨y, by simp, Note.alike_trans (absorb_alike x y) hy, e.symm⟩

/-- The latest of the notes alike to each other gives the merged one its value and its timestamp. -/
theorem mergeAlike_latest {before after : List Note} (h : ∀ x ∈ after, x.alike n = false) :
    ∃ m ∈ mergeAlike (before ++ n :: after), m.alike n = true ∧ m.value = n.value ∧ m.timestamp = n.timestamp := by
  induction after using List.reverseRecOn with
  | nil =>
    rw [mergeAlike_concat]
    obtain h | ⟨x, -, ha, h⟩ := exists_mem_mergeOne (mergeAlike before) n
    · exact ⟨n, h, Note.alike_refl n, rfl, rfl⟩
    · exact ⟨_, h, Note.alike_trans (absorb_alike x n) ha, rfl, rfl⟩
  | append_singleton after y ih =>
    obtain ⟨m, hm, ha, hv, ht⟩ := ih fun x hx => h x (List.mem_append_left _ hx)
    rw [← List.cons_append, ← List.append_assoc, mergeAlike_concat]
    obtain ⟨hy, -⟩ | ⟨-, hmem⟩ := mem_mergeOne_of_mem (n := y) hm
    · exact absurd (Note.alike_trans (Note.alike_symm hy) ha) (by simp [h y (by simp)])
    · exact ⟨m, hmem, ha, hv, ht⟩

/-- The merged notes stand in the order of the earliest of those alike to each. -/
theorem mergeAlike_order {before after : List Note} (h : ∀ x ∈ before, x.alike n = false) (hm : m ∈ mergeAlike (before ++ n :: after))
    (ha : m.alike n = true) :
    ∃ ahead behind, mergeAlike (before ++ n :: after) = ahead ++ m :: behind ∧ ∀ x ∈ ahead, ∃ y ∈ before, y.alike x = true := by
  induction after using List.reverseRecOn generalizing m with
  | nil =>
    have earlier {x : Note} (hx : x ∈ mergeAlike before) : ∃ y ∈ before, y.alike x = true := by
      obtain ⟨y, hy, hxy, -⟩ := mergeAlike_comes_from hx
      exact ⟨y, hy, Note.alike_symm hxy⟩
    have unlike {x : Note} (hx : x ∈ mergeAlike before) : x.alike n ≠ true := fun hxn => by
      obtain ⟨y, hy, hyx⟩ := earlier hx
      exact absurd (Note.alike_trans hyx hxn) (by simp [h y hy])
    rw [mergeAlike_concat] at hm ⊢
    obtain ⟨⟨x, hx, hxn⟩, -⟩ | ⟨-, e⟩ := mergeOne_cases (mergeAlike before) n
    · exact absurd hxn (unlike hx)
    · rw [e] at hm ⊢
      obtain hm | hm := List.mem_append.1 hm
      · exact absurd ha (unlike hm)
      · obtain rfl := List.mem_singleton.1 hm
        exact ⟨_, [], rfl, fun x hx => earlier hx⟩
  | append_singleton after y ih =>
    rw [← List.cons_append, ← List.append_assoc, mergeAlike_concat] at hm ⊢
    obtain ⟨-, e⟩ | ⟨hy, e⟩ := mergeOne_cases (mergeAlike (before ++ n :: after)) y <;> rw [e] at hm ⊢
    · obtain ⟨x, hx, rfl⟩ := List.mem_map.1 hm
      have hxn : x.alike n = true := Note.alike_trans (Note.alike_symm (Note.merged_alike y x)) ha
      obtain ⟨ahead, behind, el, hahead⟩ := ih hx hxn
      refine ⟨mergeInto y ahead, mergeInto y behind, by rw [el]; simp [mergeInto], fun z hz => ?_⟩
      obtain ⟨w, hw, rfl⟩ := List.mem_map.1 hz
      obtain ⟨v, hv, hvw⟩ := hahead w hw
      exact ⟨v, hv, Note.alike_trans hvw (Note.alike_symm (Note.merged_alike y w))⟩
    · obtain hm | hm := List.mem_append.1 hm
      · obtain ⟨ahead, behind, el, hahead⟩ := ih hm ha
        exact ⟨ahead, behind ++ [y], by rw [el]; simp, hahead⟩
      · obtain rfl := List.mem_singleton.1 hm
        obtain ⟨x, hx, hxn, -⟩ := mergeAlike_covers (l := before ++ n :: after) (n := n) (by simp)
        exact absurd (Note.alike_trans hxn (Note.alike_symm ha)) (by simp [hy x hx])

/-! ## BIND and UNBIND (R156, R157) -/

theorem execBind_cases (hq : NewRequest q rest s) (hc : Carries q 3 1) :
    (s.ru.manager = none →
      exec .bind s = .next (answered q .ok [q.src] { taken rest s with ru := { (taken rest s).ru with manager := some q.src } })) ∧
    (s.ru.manager = some q.src → exec .bind s = .next (answered q .ok [q.src] (taken rest s))) ∧
    (∀ m, s.ru.manager = some m → m ≠ q.src → exec .bind s = .next (refusedWith q .notManager (taken rest s))) := by
  have hx : Executable .bind q rest s := executable_of_openToAll hq hc rfl rfl
  have same : (taken rest s).ru.manager = s.ru.manager := rfl
  refine ⟨fun h => hx.next_answered ?_, fun h => hx.next_answered ?_, fun m h hm => hx.next_refused (u := taken rest s) ?_ (by decide)⟩
  · simp only [ownBind, same, h]; rfl
  · simp only [ownBind, same, h]; rfl
  · simp only [ownBind, same, h, if_neg hm.symm]

theorem execUnbind_cases (hq : NewRequest q rest s) (hc : Carries q 4 1) :
    (s.ru.manager = none → exec .unbind s = .next (answered q .ok [] (taken rest s))) ∧
    (s.ru.manager = some q.src →
      exec .unbind s = .next (answered q .ok [] (((taken rest s).withRu { (taken rest s).ru with manager := none }).withNu s.nu.unbind))) ∧
    (∀ m, s.ru.manager = some m → m ≠ q.src → exec .unbind s = .next (refusedWith q .notManager (taken rest s))) := by
  have hx : Executable .unbind q rest s := executable_of_openToAll hq hc rfl rfl
  have same : (taken rest s).ru.manager = s.ru.manager := rfl
  refine ⟨fun h => hx.next_answered ?_, fun h => hx.next_answered ?_, fun m h hm => hx.next_refused (u := taken rest s) ?_ (by decide)⟩
  · simp only [ownUnbind, same, h]
  · simp only [ownUnbind, same, h]; rfl
  · simp only [ownUnbind, same, h, if_neg hm.symm]

/-- Settles O57: the requests by the binding, the reverted notes by the rules of merging. -/
theorem bindAndUnbind : Obligations.BindAndUnbind := by
  intro q rest s hq
  refine ⟨execBind_cases hq, fun hc => ?unbind⟩
  obtain ⟨free, bound, other⟩ := execUnbind_cases hq hc
  refine ⟨free, fun h => ?bound, other⟩
  intro reverted unsent alike
  have alike_iff {a b : Note} : a.alike b = true ↔ alike a b := Note.alike_iff
  simp only [← alike_iff, Bool.not_eq_true]
  refine ⟨bound h, mergeAlike_unlike _, mergeAlike_of_unlike, fun n => mergeAlike_covers, fun m => mergeAlike_comes_from, ?_, ?_⟩
  · intro before n after e hafter
    show ∃ m ∈ mergeAlike reverted, _
    rw [e]
    exact mergeAlike_latest hafter
  · intro before n m after e hbefore hm ha
    have hm : m ∈ mergeAlike reverted := hm
    show ∃ ahead behind, mergeAlike reverted = _ ∧ ∀ x, _ → ∃ y ∈ before, y.alike x = true
    rw [e] at hm ⊢
    exact mergeAlike_order hbefore hm ha

end Sys2Proof.Machine
end

section
/-! Frames as bytes (O19) and the ingress check (O20): a formed frame passes and reads back. -/

namespace Sys2Proof.Machine
open Sys2Proof.Claims

variable {s : State} {f : Frame} {l r : List Byte} {k : Nat}

/-! ## Fields of several bytes -/

theorem halves_append (x : Half) : (x.extractLsb' 8 8 ++ x.extractLsb' 0 8 : BitVec 16) = x := by
  refine BitVec.eq_of_getLsbD_eq fun i hi => ?_
  rw [BitVec.getLsbD_append]
  split
  · next h => simp [h]
  · next h =>
    have back : 8 + (i - 8) = i := by omega
    have low : i - 8 < 8 := by omega
    simp [back, low]

theorem byteAt_append_right (h : l.length ≤ k) : byteAt (l ++ r) k = byteAt r (k - l.length) :=
  List.getD_append_right _ _ _ _ h

theorem halfAt_append_bytes16 (l : List Byte) (x : Half) : halfAt (l ++ bytes16 x) l.length = x := by
  unfold halfAt
  rw [byteAt_append_right (Nat.le_refl _), byteAt_append_right (Nat.le_add_right _ 1), Nat.sub_self, Nat.add_sub_cancel_left]
  exact halves_append x

theorem byteOf_toNat {n : Nat} (h : n ≤ 255) : (byteOf n).toNat = n := by
  simp [byteOf]; omega

/-! ## Formed frames (R3, section 11.1) -/

theorem Frame.body_length (f : Frame) : f.body.length = 6 + f.payload.length := by simp [Frame.body]; omega
theorem Frame.bytes_length (f : Frame) : f.bytes.length = 8 + f.payload.length := by simp [Frame.bytes, f.body_length, bytes16]; omega

/-- The length byte of a frame whose payload fits. -/
theorem Frame.bytes_len (h : f.payload.length ≤ 60) : (byteAt f.bytes 5).toNat = f.payload.length :=
  byteOf_toNat (by omega)

theorem bytesPass_iff : bytesPass l = true ↔
    8 ≤ l.length ∧ (byteAt l 5).toNat ≤ 60 ∧ l.length = 8 + (byteAt l 5).toNat ∧
      crc (l.take (l.length - 2)) = halfAt l (l.length - 2) := by
  simp only [bytesPass, Bool.and_eq_true, decide_eq_true_eq, and_assoc]

theorem bytesPass_bytes (h : f.payload.length ≤ 60) : bytesPass f.bytes = true := by
  have body : f.bytes.length - 2 = f.body.length := by rw [f.bytes_length, f.body_length]; omega
  refine bytesPass_iff.2 ⟨?_, ?_, ?_, ?_⟩
  · rw [f.bytes_length]; omega
  · rw [Frame.bytes_len h]; exact h
  · rw [Frame.bytes_len h, f.bytes_length]
  · rw [body]
    unfold Frame.bytes
    rw [List.take_left, halfAt_append_bytes16]

theorem frameOfBytes_bytes (h : f.payload.length ≤ 60) : frameOfBytes f.bytes = f := by
  have payload : (f.bytes.drop 6).take (byteAt f.bytes 5).toNat = f.payload := by
    rw [Frame.bytes_len h]
    simp [Frame.bytes, Frame.body]
  unfold frameOfBytes
  rw [payload]
  rfl

/-- Settles O19: each condition of the check is one of the lengths or the CRC of the body; the fields stand at their offsets. -/
theorem formedFramesPassAndReadBack : Obligations.FormedFramesPassAndReadBack :=
  fun _ h => ⟨bytesPass_bytes h, frameOfBytes_bytes h⟩

/-! ## A frame that fails the check (R2, R3) -/

/-- Settles O20: the frame fails the ingress check, and a FRAME_END counts and drops it. -/
theorem failingFrameIsDiscarded : Obligations.FailingFrameIsDiscarded := by
  intro f s ha hw hfail
  have fails : ingressPasses f = false := by
    refine Bool.eq_false_iff.2 fun h => ?_
    simp only [ingressPasses, Bool.and_eq_true, decide_eq_true_eq, bytesPass_iff] at h
    obtain ⟨hending, hlength, hlen, htotal, hcrc⟩ := h
    obtain h | h | h | h | h := hfail
    · exact absurd (hending.symm.trans h) (by decide)
    · omega
    · omega
    · exact h htotal
    · exact h hcrc
  refine congrArg Host.Outcome.next ?_
  obtain ⟨w, h, -⟩ | ⟨-, h, -⟩ | ⟨f', -, h, ⟨hp, -⟩ | ⟨-, hr⟩⟩ := frameEnd_cases true s
  · cases hw.symm.trans h
  · cases ha.symm.trans h
  · cases ha.symm.trans h
    rw [fails] at hp
    cases hp
  · exact hr

end Sys2Proof.Machine
end

section
/-! What becomes of a valid frame (O21 to O24), of a symbol (O18) and of a silent line (O25). -/

namespace Sys2Proof.Machine
open Sys2Proof.Claims

variable {s u : State} {f : Frame} {e : Time}

/-! ## The state in which a valid frame is classified -/

@[simp] theorem counted_ci (s : State) : (counted s).ci = { s.ci with rx := { s.ci.rx with awaiting := none } } := signal_ci _ _
@[simp] theorem counted_ru (s : State) : (counted s).ru = s.ru := signal_ru _ _
@[simp] theorem counted_turns (s : State) : (counted s).turns = s.turns := signal_turns _ _

/-- R5: the link is raised in the counted state as the statements say. -/
theorem raiseLink_counted (e : Time) (s : State) : raiseLink e (counted s) = received e s := by
  unfold raiseLink received
  simp only [counted_ci]
  cases s.ci.link
  case up => rfl
  case down =>
    cases s.ci.downStart with
    | none => simp only [linkedUp, State.withCi, counted_ci]
    | some d =>
      have mode : (counted s).transparent = s.transparent := by simp [State.transparent]
      have value : (outage e d : Int) = if (e - d).toNat ≤ 65535 then ((e - d).toNat : Int) else 65535 := by
        unfold outage; split <;> omega
      simp only [mode, linkedUp, State.withCi, counted_ci, value]

theorem received_ci (e : Time) (s : State) : ∃ link down, (received e s).ci =
    { s.ci with rx := { s.ci.rx with awaiting := none }, link := link, downStart := down } := by
  unfold received
  split
  · exact ⟨s.ci.link, s.ci.downStart, counted_ci s⟩
  · exact ⟨.up, none, by simp [linkedUp]⟩
  · split <;> exact ⟨.up, none, by simp [linkedUp]⟩

@[simp] theorem received_straps (e : Time) (s : State) : (received e s).ci.straps = s.ci.straps := by
  obtain ⟨_, _, h⟩ := received_ci e s; rw [h]
@[simp] theorem received_transit (e : Time) (s : State) : (received e s).ci.transit = s.ci.transit := by
  obtain ⟨_, _, h⟩ := received_ci e s; rw [h]
@[simp] theorem received_transparent (e : Time) (s : State) : (received e s).transparent = s.transparent := by simp [State.transparent]
@[simp] theorem received_ownAddress (e : Time) (s : State) : (received e s).ownAddress = s.ownAddress := by simp [State.ownAddress]

@[simp] theorem received_ru (e : Time) (s : State) : (received e s).ru = s.ru := by
  unfold received linkedUp; (repeat' split) <;> simp

@[simp] theorem received_turns (e : Time) (s : State) : (received e s).turns = s.turns := by
  unfold received linkedUp; (repeat' split) <;> simp

/-- R2, R5: a FRAME_END takes an arrived frame in the state that counting it and raising the link leave. -/
theorem frameEnd_arrived (h : Arrived f e s) (divisible : Bool) :
    frameEnd divisible s = settleIdlePort (takeValid divisible f (received e s)) := by
  have passes : ingressPasses { bytes := f.bytes, ending := .delimited, endedAt := e } = true := by
    simp [ingressPasses, bytesPass_bytes h.payload]
  obtain ⟨w, hw, -⟩ | ⟨-, ha, -⟩ | ⟨f', -, ha, ⟨-, hr⟩ | ⟨hp, -⟩⟩ := frameEnd_cases divisible s
  · cases h.begun.symm.trans hw
  · cases h.awaiting.symm.trans ha
  · cases h.awaiting.symm.trans ha
    rw [hr, frameOfBytes_bytes h.payload]
    exact congrArg (fun u => settleIdlePort (takeValid divisible f u)) (raiseLink_counted e s)
  · cases h.awaiting.symm.trans ha
    rw [passes] at hp
    cases hp

/-! ## Forwarding (R10, R11) -/

theorem hops_le_one_iff (b : Byte) : b = 0 ∨ b = 1 ↔ b.toNat ≤ 1 := by
  rw [byte_eq_zero_iff, byte_eq_one_iff]; omega

theorem forward_eq_passedOn (f : Frame) (u : State) : forward f u = passedOn f u := by
  unfold forward joinTransit passedOn
  simp only [hops_le_one_iff]
  rfl

/-- A frame that is forwarded once it is taken: hop-expired, in transit or dropped. -/
theorem frameEnd_forwards (h : Arrived f e s) (hv : takeValid true f (received e s) = forward f (received e s)) :
    (f.hops.toNat ≤ 1 → exec .frameEnd s = .next (settleIdlePort (signal .hopExpired (received e s)))) ∧
    (2 ≤ f.hops.toNat → s.ci.transit.length < 8 →
      exec .frameEnd s =
        .next (settleIdlePort { received e s with ci := { (received e s).ci with
          transit := s.ci.transit ++ [{ f with hops := f.hops - 1 }] } })) ∧
    (2 ≤ f.hops.toNat → 8 ≤ s.ci.transit.length →
      exec .frameEnd s = .next (settleIdlePort (signal .transitDrop (received e s)))) := by
  have taken : exec .frameEnd s = .next (settleIdlePort (passedOn f (received e s))) := by
    rw [← forward_eq_passedOn, ← hv]
    exact congrArg Host.Outcome.next (frameEnd_arrived h true)
  simp only [taken, passedOn, received_transit]
  refine ⟨fun hh => by rw [if_pos hh], fun hh ht => ?_, fun hh ht => ?_⟩
  · rw [if_neg (by omega), if_pos ht]
  · rw [if_neg (by omega), if_neg (by omega)]

/-! ## Classification (R6 to R9, R12) -/

theorem takeValid_transparent {d : Bool} (h : u.transparent = true) : takeValid d f u = forward f u := by
  unfold takeValid; rw [if_pos h]

theorem takeValid_own {d : Bool} (h : u.transparent = false) (hf : f.src = u.ownAddress) : takeValid d f u = u := by
  unfold takeValid; rw [h, if_neg Bool.false_ne_true, if_pos hf]

/-- R7: a frame from another node, no SAMPLE, by its dest and its type. -/
theorem takeValid_other {d : Bool} (h : u.transparent = false) (hf : f.src ≠ u.ownAddress) (ht : f.type ≠ 1) :
    takeValid d f u =
      if f.dest = u.ownAddress then
        if f.type = 3 then takeAck f.src f.seq f.payload u
        else if f.type = 4 then takeReq f u
        else if f.type = 5 ∨ f.type = 6 then u
        else forward f u
      else forward f u := by
  unfold takeValid classify
  rw [h, if_neg Bool.false_ne_true, if_neg hf, if_neg (show f.type ≠ typeSample from ht)]
  rfl

/-- A frame from another node in the state in which it is classified. -/
theorem takeValid_arrivedHere {d : Bool} (h : ArrivedHere f e s) (ht : f.type ≠ 1) :
    takeValid d f (received e s) =
      if f.dest = s.ownAddress then
        if f.type = 3 then takeAck f.src f.seq f.payload (received e s)
        else if f.type = 4 then takeReq f (received e s)
        else if f.type = 5 ∨ f.type = 6 then received e s
        else forward f (received e s)
      else forward f (received e s) := by
  have normal : (received e s).transparent = false := by rw [received_transparent, h.normal]
  have other : f.src ≠ (received e s).ownAddress := by rw [received_ownAddress]; exact h.other
  rw [takeValid_other normal other ht, received_ownAddress]

/-- Settles O21: such a frame reaches `forward`. -/
theorem frameIsForwarded : Obligations.FrameIsForwarded := by
  intro f e s h ht hf
  refine frameEnd_forwards h.toArrived ?_
  rw [takeValid_arrivedHere h ht]
  obtain hd | ⟨h3, h4, h5, h6⟩ := hf
  · rw [if_neg hd]
  · rw [if_neg h3, if_neg h4, if_neg (not_or.2 ⟨h5, h6⟩), ite_self]

/-- Settles O22: in TRANSPARENT mode every valid frame reaches `forward`. -/
theorem transparentPartForwardsEveryFrame : Obligations.TransparentPartForwardsEveryFrame :=
  fun f e s h ht => frameEnd_forwards h (takeValid_transparent (by rw [received_transparent, ht]))

/-- Settles O23: an own frame is stripped before it is classified; RSP, NOTE and REQ by their types. -/
theorem frameIsConsumed : Obligations.FrameIsConsumed := by
  refine ⟨fun f e s h hn hs => congrArg Host.Outcome.next ?own, fun f e s h hd => ?other⟩
  case own => rw [frameEnd_arrived h, takeValid_own (by rw [received_transparent, hn]) (by rw [received_ownAddress, hs])]
  case other =>
    refine ⟨fun ht => ?ignored, fun ht hl => ?joins, fun ht hl => ?dropped⟩ <;>
      refine congrArg Host.Outcome.next ((frameEnd_arrived h.toArrived true).trans (congrArg settleIdlePort ?_))
    case ignored =>
      rw [takeValid_arrivedHere h (by rcases ht with ht | ht <;> rw [ht] <;> decide), if_pos hd]
      rcases ht with ht | ht <;> simp [ht]
    all_goals
      rw [takeValid_arrivedHere h (by rw [ht]; decide), if_pos hd, if_neg (by rw [ht]; decide), if_pos ht]
      unfold takeReq
      rw [received_ru]
    case joins => exact if_pos hl
    case dropped => exact if_neg (Nat.not_lt.2 hl)

/-- Settles O24: by the link before the frame. -/
theorem validFrameRaisesTheLink : Obligations.ValidFrameRaisesTheLink := by
  intro f e s h up
  have taken : exec .frameEnd s = .next (settleIdlePort (takeValid true f (received e s))) :=
    congrArg Host.Outcome.next (frameEnd_arrived h true)
  refine ⟨fun hl => ?_, fun hl hd => ?_, fun d hl ht hd => ?_, fun ht hs u hu => ?_⟩
  · rw [taken]
    unfold received
    rw [hl]
  · have raised : received e s = up := by
      unfold received
      rw [hl]
      obtain ht | hd := hd
      · cases s.ci.downStart with
        | none => rfl
        | some d => simp only [ht, if_true]; rfl
      · rw [hd]; rfl
    rw [taken, raised]
  · rw [taken]
    unfold received
    simp only [hl, hd, ht]
    rfl
  · have normal : u.transparent = false := by rw [← ht]; simp only [State.transparent, hu]
    exact takeValid_own normal (hs.trans (by simp only [State.ownAddress, hu]))

end Sys2Proof.Machine
end

section
/-! What taking frames does to the Chain Interface: it raises the link, adds to the transit queue and sets the SAMPLE in work; with this the
receiver and the link-down timer (O18, O25) and the SAMPLE frames (O34). -/

namespace Sys2Proof.Machine
open Sys2Proof.Claims

variable {s t u : State} {f : Frame} {e : Time} {d : Bool} {w : SampleInWork}

/-! ## What leaves the Chain Interface as it is -/

@[simp] theorem enterFault_ci (c : Fin 16) (cause : Nat) (s : State) : (enterFault c cause s).ci = s.ci := by simp [enterFault]
@[simp] theorem returnToFault_ci (c : Fin 16) (s : State) : (returnToFault c s).ci = s.ci := by simp [returnToFault]

@[simp] theorem ackOk_ci (c : Fin 16) (applied : Nat) (s : State) : (ackOk c applied s).ci = s.ci := by
  unfold ackOk; dsimp only; split <;> split <;> simp

@[simp] theorem ackReject_ci (c : Fin 16) (s : State) : (ackReject c s).ci = s.ci := by
  unfold ackReject; dsimp only; (repeat' split) <;> simp

@[simp] theorem takeAck_ci (src seq : Byte) (p : List Byte) (s : State) : (takeAck src seq p s).ci = s.ci := by
  unfold takeAck; (repeat' split) <;> simp

@[simp] theorem handBandOn_ci (i : Fin 256) (cfg : PointConfig) (old new : Band) (v : Int) (s : State) :
    (handBandOn i cfg old new v s).ci = s.ci := by
  unfold handBandOn; dsimp only; (repeat' split) <;> simp

@[simp] theorem acceptReading_ci (i : Fin 256) (p : Point) (raw : Int) (s : State) : (acceptReading i p raw s).1.ci = s.ci := by
  unfold acceptReading; dsimp only; (repeat' split) <;> simp

@[simp] theorem takeReading_ci (src : Byte) (r : Reading) (s : State) : (takeReading src r s).1.ci = s.ci := by
  unfold takeReading; dsimp only; (repeat' split) <;> simp

@[simp] theorem takeReadings_ci (src : Byte) (l : List Reading) (s : State) : (takeReadings src l s).1.ci = s.ci := by
  induction l generalizing s with
  | nil => rfl
  | cons r l ih => exact (ih _).trans (takeReading_ci src r s)

/-- Of the readings taken at most all stay. -/
theorem takeReadings_length (src : Byte) (l : List Reading) (s : State) : (takeReadings src l s).2.length ≤ l.length := by
  induction l generalizing s with
  | nil => exact Nat.le_refl 0
  | cons r l ih =>
    have later := ih (takeReading src r s).1
    unfold takeReadings
    dsimp only
    split <;> simp only [List.length_cons] <;> omega

/-! ## What taking a frame does to the Chain Interface -/

/-- A SAMPLE in work with readings left, eight in all at most (R8). -/
def SampleInWork.Open (w : SampleInWork) : Prop := w.left ≠ [] ∧ w.kept.length + w.left.length ≤ 8

/-- From `s` to `t` the Chain Interface has only raised its link, taken frames into its transit queue, settled its last class and, where a
frame may be divided, taken a SAMPLE into work. -/
structure Passing (d : Bool) (s t : State) : Prop where
  rest : t.ci = { s.ci with link := t.ci.link, downStart := t.ci.downStart, sample := t.ci.sample, transit := t.ci.transit
                            lastClass := t.ci.lastClass }
  transit : s.ci.transit.length ≤ 8 → t.ci.transit.length ≤ 8
  link : (t.ci.link = s.ci.link ∧ t.ci.downStart = s.ci.downStart) ∨ (t.ci.link = .up ∧ t.ci.downStart = none)
  sample : t.ci.sample = s.ci.sample ∨ (d = true ∧ ∃ w, t.ci.sample = some w ∧ w.Open)

theorem Passing.refl (d : Bool) (s : State) : Passing d s s := ⟨rfl, id, .inl ⟨rfl, rfl⟩, .inl rfl⟩

theorem Passing.of_ci (h : t.ci = s.ci) : Passing d s t := ⟨by rw [h], by rw [h]; exact id, .inl ⟨by rw [h], by rw [h]⟩, .inl (by rw [h])⟩

theorem Passing.trans (h : Passing d s t) (h' : Passing d t u) : Passing d s u where
  rest := by rw [h'.rest, h.rest]
  transit := h'.transit ∘ h.transit
  link := by
    obtain ⟨hl, hd⟩ | hup := h'.link
    · rw [hl, hd]; exact h.link
    · exact .inr hup
  sample := by
    obtain hs | hs := h'.sample
    · rw [hs]; exact h.sample
    · exact .inr hs

/-- A step that keeps the Chain Interface. -/
theorem Passing.same (h : Passing d s t) (e : u.ci = t.ci) : Passing d s u := h.trans (.of_ci e)

theorem Passing.forward (h : Passing d s t) (f : Frame) : Passing d s (forward f t) := by
  obtain ⟨c, hc⟩ | ⟨hl, hc⟩ := forward_cases f t <;> rw [hc]
  · exact h.same (signal_ci c t)
  · exact h.trans ⟨rfl, fun _ => by simpa [Nat.succ_le_iff] using hl, .inl ⟨rfl, rfl⟩, .inl rfl⟩

theorem Passing.consumeOrForward (h : Passing d s t) (f : Frame) : Passing d s (consumeOrForward f t) := by
  unfold Machine.consumeOrForward; split
  · exact h
  · exact h.forward f

theorem Passing.returnSample (h : Passing d s t) (f : Frame) (kept : List Reading) : Passing d s (returnSample f kept t) := by
  unfold Machine.returnSample; split
  · exact h
  · exact h.consumeOrForward _

theorem Passing.readOn (h : Passing d s t) (hw : d = true → w.kept.length + w.left.length ≤ 8) : Passing d s (readOn d w t) := by
  obtain ⟨n, later, hd, -, hr⟩ | ⟨-, hr⟩ := readOn_cases d w t <;> rw [hr]
  · have taken : Passing d s (takeReadings w.frame.src (w.left.take n.val) (t.withTurns later)).1 := h.same (takeReadings_ci _ _ _)
    obtain ⟨-, hr⟩ | ⟨hleft, hr⟩ := readSome_cases n.val w (t.withTurns later) <;> rw [hr]
    · exact taken.returnSample _ _
    · refine taken.trans ⟨rfl, id, .inl ⟨rfl, rfl⟩, .inr ⟨hd, _, rfl, hleft, ?_⟩⟩
      have kept := takeReadings_length w.frame.src (w.left.take n.val) (t.withTurns later)
      have bound := hw hd
      simp only [List.length_take, List.length_append, List.length_drop] at kept ⊢
      omega
  · rw [readSome_whole]
    exact (h.same (takeReadings_ci _ _ _)).returnSample _ _

theorem readingsOf_length : ∀ p : List Byte, 3 * (readingsOf p).length ≤ p.length
  | [] | [_] | [_, _] => Nat.zero_le _
  | _ :: _ :: _ :: rest => by
    have later := readingsOf_length rest
    simp only [readingsOf, List.length_cons]
    omega

theorem Passing.takeValid (h : Passing d s t) (f : Frame) : Passing d s (takeValid d f t) := by
  unfold Machine.takeValid classify takeSample takeReq; (repeat' split)
  · exact h.forward f
  · exact h
  · next hf =>
    refine h.readOn fun _ => ?_
    have short := readingsOf_length f.payload
    simp only [sampleWellFormed, Bool.and_eq_true, decide_eq_true_eq] at hf
    simp only [List.length_nil]
    omega
  · exact h.consumeOrForward f
  · exact h.same (takeAck_ci _ _ _ _)
  · exact h.same rfl
  · exact h.same (signal_ci _ _)
  · exact h
  all_goals exact h.forward f

theorem Passing.raiseLink (h : Passing d s t) (e : Time) : Passing d s (raiseLink e t) := by
  have up : Passing d s (t.withCi { t.ci with link := .up, downStart := none }) := h.trans ⟨rfl, id, .inr ⟨rfl, rfl⟩, .inl rfl⟩
  unfold Machine.raiseLink; dsimp only; (repeat' split)
  · exact h
  · exact up
  · exact up
  · exact up.same (raise_ci _ _ _ _ _)

theorem Passing.settleIdlePort (h : Passing d s t) : Passing d s (settleIdlePort t) := by
  obtain hr | ⟨-, -, hr⟩ := settleIdlePort_cases t <;> rw [hr]
  · exact h
  · exact h.trans ⟨rfl, id, .inl ⟨rfl, rfl⟩, .inl rfl⟩

/-- What a FRAME_END leaves of the Chain Interface, but for the frame or the SAMPLE that it takes up. -/
theorem frameEnd_passing (d : Bool) (hw : ∀ w, d = true → s.ci.sample = some w → w.kept.length + w.left.length ≤ 8) :
    (∃ w, s.ci.sample = some w ∧ Passing d (s.withCi { s.ci with sample := none }) (frameEnd d s)) ∨
      (s.ci.sample = none ∧ Passing d (s.withCi { s.ci with rx := { s.ci.rx with awaiting := none } }) (frameEnd d s)) := by
  obtain ⟨w, hs, hr⟩ | ⟨hs, ha, hr⟩ | ⟨f, hs, -, ⟨-, hr⟩ | ⟨-, hr⟩⟩ := frameEnd_cases d s <;> rw [hr]
  · exact .inl ⟨w, hs, ((Passing.refl _ _).readOn fun hd => hw w hd hs).settleIdlePort⟩
  · refine .inr ⟨hs, .of_ci ?_⟩
    rw [State.withCi_ci, ← ha]
  · exact .inr ⟨hs, (((Passing.of_ci (signal_ci _ _)).raiseLink _).takeValid _).settleIdlePort⟩
  · exact .inr ⟨hs, .of_ci ((signal_ci _ _).trans (signal_ci _ _))⟩

@[simp] theorem frameEnd_timebase (d : Bool) (s : State) : (frameEnd d s).timebase = s.timebase :=
  (Work.frameEnd (owned := []) (.refl s)).timebase (by simp)

/-- A FRAME_END that no choice divides leaves nothing in work and nothing that awaits the checks. -/
theorem frameEnd_whole (h : s.ci.rx.awaiting = none ∨ s.ci.sample = none) :
    (frameEnd false s).ci.rx = { s.ci.rx with awaiting := none } ∧ (frameEnd false s).ci.sample = none ∧
      (frameEnd false s).ci.linkTimer = s.ci.linkTimer := by
  obtain ⟨w, hs, hp⟩ | ⟨hs, hp⟩ := frameEnd_passing (s := s) false fun _ hd => absurd hd Bool.false_ne_true
  · have ha : s.ci.rx.awaiting = none := h.resolve_right (by simp [hs])
    have sample := hp.sample.resolve_right fun h => absurd h.1 Bool.false_ne_true
    rw [hp.rest]
    exact ⟨by rw [State.withCi_ci, ← ha], sample, rfl⟩
  · have sample := hp.sample.resolve_right fun h => absurd h.1 Bool.false_ne_true
    rw [hp.rest]
    exact ⟨rfl, sample.trans hs, rfl⟩

/-! ## A frame that no choice divides (R38) -/

theorem readOn_undivided (h : Undivided s) (w : SampleInWork) (d : Bool) : readOn d w s = readOn false w s := by
  obtain ⟨n, later, -, ht, -⟩ | ⟨-, hr⟩ := readOn_cases d w s
  · exact absurd (by rw [ht]; rfl) (h n)
  · rw [hr]; rfl

theorem raiseLink_turns (e : Time) (s : State) : (raiseLink e s).turns = s.turns := by
  unfold raiseLink; dsimp only; (repeat' split) <;> simp

theorem takeValid_undivided (h : Undivided s) (f : Frame) (d : Bool) : takeValid d f s = takeValid false f s := by
  unfold takeValid classify takeSample
  simp only [readOn_undivided h]

theorem frameEnd_undivided (h : Undivided s) : frameEnd true s = frameEnd false s := by
  unfold frameEnd takeAwaiting
  dsimp only
  split
  · rw [readOn_undivided (by exact h)]
  · split
    · rfl
    · rw [takeValid_undivided (by unfold Undivided; rw [raiseLink_turns, signal_turns]; exact h)]

/-- Settles O18: the symbol decides, and what the receiver collects. -/
theorem symbolIsReceived : Obligations.SymbolIsReceived := by
  intro s timed done
  have delimiter : exec (.symbolReceived .delimiter) s = .next (takeDelimiter timed) := rfl
  have data (b : Byte) : exec (.symbolReceived (.data b)) s = .next (takeData b timed) := rfl
  have collecting : timed.ci.rx.collecting = s.ci.rx.collecting := rfl
  refine ⟨rfl, fun h => congrArg Host.Outcome.next (frameEnd_undivided h), fun h => ?_, fun b bs h => ?_, fun b h => ?_,
    fun b bs h hl => ?_, fun b bs h hl => ?_⟩
  · rw [delimiter]
    unfold takeDelimiter
    rw [collecting]
    obtain h | h := h <;> rw [h] <;> rfl
  · rw [delimiter]
    unfold takeDelimiter
    rw [collecting, h]
    rfl
  · rw [data]
    unfold takeData
    rw [collecting, h]
  · rw [data]
    unfold takeData
    rw [collecting, h]
    exact congrArg Host.Outcome.next (if_pos hl)
  · rw [data]
    unfold takeData
    rw [collecting, h]
    exact congrArg Host.Outcome.next (if_neg (Nat.not_lt.2 hl))

/-! ## The link-down timer (R4) -/

theorem frameEnd_nothing (ha : s.ci.rx.awaiting = none) (hs : s.ci.sample = none) (d : Bool) : frameEnd d s = s := by
  simp [frameEnd, takeAwaiting, ha, hs]

theorem linkDownExpiry_due (ht : s.ci.linkTimer = some e) (hd : timerDue s.timebase (some e) = true) :
    linkDownExpiry s = linkDown e (truncateFrame (frameEnd false s)) := by
  unfold linkDownExpiry
  rw [ht]
  exact if_pos hd

/-- Settles O25: the frame before is completed first, once; then the frame in reception is cut and the link goes down. -/
theorem silentLineTakesTheLinkDown : Obligations.SilentLineTakesTheLinkDown := by
  intro s e ht hd
  refine ⟨fun h => ⟨?completed, fun hu => congrArg Host.Outcome.next (frameEnd_undivided hu)⟩, fun ha hs => ?silent⟩
  case completed =>
    obtain ⟨hrx, hsample, htimer⟩ := frameEnd_whole h
    refine congrArg Host.Outcome.next ?_
    rw [linkDownExpiry_due ht hd, linkDownExpiry_due (htimer.trans ht) (by rw [frameEnd_timebase]; exact hd),
      frameEnd_nothing (s := frameEnd false s) (by rw [hrx]) hsample]
  case silent =>
    intro cut
    have expiry : exec .linkDownTimerExpiry s = .next (linkDown e (truncateFrame s)) := by
      refine congrArg Host.Outcome.next ?_
      rw [linkDownExpiry_due ht hd, frameEnd_nothing ha hs]
    have quiet (h : s.ci.rx.collecting = none ∨ s.ci.rx.collecting = some []) : truncateFrame s = s := by
      unfold truncateFrame
      obtain h | h := h <;> rw [h]
    have truncated {b : Byte} {bs : List Byte} (h : s.ci.rx.collecting = some (b :: bs)) : truncateFrame s = cut := by
      unfold truncateFrame collect
      rw [h]
      dsimp only
      rw [ha]
      rfl
    have down_up {x : State} (h : x.ci.link = .up) : linkDown e x =
        { x with ci := { x.ci with linkTimer := none, link := .down, downStart := some (e - 20) } } := by
      unfold linkDown; rw [h]; rfl
    have down_down {x : State} (h : x.ci.link = .down) : linkDown e x = { x with ci := { x.ci with linkTimer := none } } := by
      unfold linkDown; rw [h]; rfl
    have cut_link : cut.ci.link = s.ci.link := by simp [cut]
    refine ⟨fun h hl => ?_, fun h hl => ?_, fun b bs h hl => ?_, fun b bs h hl => ?_⟩ <;> rw [expiry]
    · rw [quiet h, down_up hl]
    · rw [quiet h, down_down hl]
    · rw [truncated h, down_up (cut_link.trans hl)]
    · rw [truncated h, down_down (cut_link.trans hl)]

/-! ## SAMPLE frames (R8, R38, R62, R63) -/

theorem sampleWellFormed_iff (p : List Byte) : sampleWellFormed p = true ↔ p.length ∈ [3, 6, 9, 12, 15, 18, 21, 24] := by
  simp only [sampleWellFormed, Bool.and_eq_true, decide_eq_true_eq, List.mem_cons, List.not_mem_nil, or_false]
  omega

theorem consumeOrForward_eq (f : Frame) (s : State) : consumeOrForward f s = if f.dest = s.ownAddress then s else passedOn f s := by
  unfold consumeOrForward
  rw [forward_eq_passedOn]

theorem returnSample_eq_returned (f : Frame) (kept : List Reading) (s : State) : returnSample f kept s = returned f kept s := by
  unfold returnSample returned
  rw [consumeOrForward_eq]
  by_cases hk : kept = []
  · simp [hk]
  · by_cases hd : f.dest = s.ownAddress <;> simp [hk, hd, Frame.withReadings]

/-- A SAMPLE taken whole. -/
theorem readOn_whole (w : SampleInWork) (s : State) :
    readOn false w s = returned w.frame (w.kept ++ (takeReadings w.frame.src w.left s).2) (takeReadings w.frame.src w.left s).1 := by
  rw [← returnSample_eq_returned, ← readSome_whole]
  rfl

/-- A SAMPLE that the sender's choice divides, or whose readings the choice covers. -/
theorem readOn_divided {n : Fin 8} {later : List Turn} (w : SampleInWork) (ht : s.turns = .readings n :: later) :
    let a := takeReadings w.frame.src (w.left.take n) (s.withTurns later)
    (w.left.length ≤ n.val → readOn true w s = returned w.frame (w.kept ++ a.2) a.1) ∧
    (n.val < w.left.length →
      readOn true w s = a.1.withCi { a.1.ci with sample := some { frame := w.frame, kept := w.kept ++ a.2, left := w.left.drop n } }) := by
  intro a
  have some_read : readOn true w s = readSome n.val w (s.withTurns later) := by
    unfold readOn; rw [ht]
  rw [some_read]
  obtain ⟨hleft, hr⟩ | ⟨hleft, hr⟩ := readSome_cases n.val w (s.withTurns later) <;> rw [hr]
  · rw [List.drop_eq_nil_iff] at hleft
    exact ⟨fun _ => returnSample_eq_returned _ _ _, fun h => absurd hleft (Nat.not_le.2 h)⟩
  · rw [Ne, List.drop_eq_nil_iff] at hleft
    exact ⟨fun h => absurd h hleft, fun _ => rfl⟩

/-- Settles O34: an arrived SAMPLE and one in work reach `readOn`, which takes it whole, in part or to its end. -/
theorem sampleFrames : Obligations.SampleFrames := by
  refine ⟨fun f e s h ht => ?arrived, fun w s hw => ?inWork⟩
  case arrived =>
    intro u
    have normal : u.transparent = false := by rw [received_transparent, h.normal]
    have other : f.src ≠ u.ownAddress := by rw [received_ownAddress]; exact h.other
    have taken (d : Bool) : frameEnd d s = settleIdlePort (takeSample d f u) := by
      rw [frameEnd_arrived h.toArrived]
      unfold takeValid classify
      rw [show (received e s).transparent = false from normal, if_neg Bool.false_ne_true, if_neg other, if_pos (show f.type = typeSample from ht)]
    refine ⟨fun hf => ?wellFormed, fun hf => ?malformed⟩
    case wellFormed =>
      intro readings
      have begun (d : Bool) : frameEnd d s = settleIdlePort (readOn d { frame := f, kept := [], left := readings } u) := by
        rw [taken]
        unfold takeSample
        rw [if_pos ((sampleWellFormed_iff _).2 hf)]
      have whole : frameEnd false s = settleIdlePort (returned f (takeReadings f.src readings u).2 (takeReadings f.src readings u).1) := by
        rw [begun, readOn_whole]
        rfl
      refine ⟨⟨whole, fun hu => congrArg Host.Outcome.next ((frameEnd_undivided hu).trans whole)⟩, fun n later hturns => ?_⟩
      obtain ⟨all, part⟩ := readOn_divided { frame := f, kept := [], left := readings } ((received_turns e s).trans hturns)
      exact ⟨fun hn => congrArg Host.Outcome.next ((begun true).trans (congrArg settleIdlePort (all hn))),
        fun hn => congrArg Host.Outcome.next ((begun true).trans (congrArg settleIdlePort (part hn)))⟩
    case malformed =>
      have passed : exec .frameEnd s = .next (settleIdlePort (if f.dest = s.ownAddress then u else passedOn f u)) := by
        refine congrArg Host.Outcome.next ((taken true).trans (congrArg settleIdlePort ?_))
        unfold takeSample
        rw [if_neg fun h => hf ((sampleWellFormed_iff _).1 h), consumeOrForward_eq, received_ownAddress]
      exact ⟨fun hd => by rw [passed, if_pos hd], fun hd => by rw [passed, if_neg hd]⟩
  case inWork =>
    intro begun
    have goes_on (d : Bool) : frameEnd d s = settleIdlePort (readOn d w begun) := by
      unfold frameEnd
      rw [hw]
      rfl
    have whole := (goes_on false).trans (congrArg settleIdlePort (readOn_whole w begun))
    refine ⟨⟨whole, fun hu => congrArg Host.Outcome.next ((frameEnd_undivided hu).trans whole)⟩, fun n later hturns => ?_⟩
    obtain ⟨all, part⟩ := readOn_divided w (s := begun) hturns
    exact ⟨fun hn => congrArg Host.Outcome.next ((goes_on true).trans (congrArg settleIdlePort (all hn))),
      fun hn => congrArg Host.Outcome.next ((goes_on true).trans (congrArg settleIdlePort (part hn)))⟩

end Sys2Proof.Machine
end

section
/-! The egress arbiter (O26 to O28) and SET_CHAIN with SET_OVERRIDE (O29). -/

namespace Sys2Proof.Machine
open Sys2Proof.Claims

variable {s : State} {q : Request} {rest : List Request}

/-! ## The round robin (R18) -/

theorem nextChannel_eq (s : State) : nextChannel s =
    ((List.finRange 16).find? (fun k => (s.chan (s.ci.roundRobin + 1 + k)).waiting)).map (fun k => s.ci.roundRobin + 1 + k) := by
  unfold nextChannel searchOrder
  rw [List.find?_map]
  rfl

/-- The first index, upward from 0, that has a property. -/
theorem find?_finRange {n : Nat} {p : Fin n → Bool} {k : Fin n} (hk : p k = true) (h : ∀ j, j < k → p j = false) :
    (List.finRange n).find? p = some k := by
  rw [List.find?_eq_some_iff_getElem]
  refine ⟨hk, k.val, by simp, by simp, fun j hj => ?_⟩
  simpa using h ⟨j, hj.trans k.isLt⟩ hj

theorem nextChannel_eq_none_iff : nextChannel s = none ↔ ∀ c, (s.chan c).waiting = false := by
  rw [nextChannel_eq, Option.map_eq_none_iff, List.find?_eq_none]
  refine ⟨fun h c => ?_, fun h k _ => by simp [h]⟩
  have hc := h (c - (s.ci.roundRobin + 1)) (List.mem_finRange _)
  rwa [add_sub_cancel, Bool.not_eq_true] at hc

/-- Settles O26: the search order is the ring of channels from the one after the pointer. -/
theorem roundRobinFindsTheNextWaitingChannel : Obligations.RoundRobinFindsTheNextWaitingChannel := by
  refine ⟨fun s k hk h => ?_, fun s => nextChannel_eq_none_iff⟩
  rw [nextChannel_eq, find?_finRange hk h]
  rfl

/-! ## One grant (R16, R17) -/

theorem egressGrant_transit (hp : s.ci.port = .free) {f : Frame} {queue : List Frame} (ht : s.ci.transit = f :: queue)
    (h : originatedWaiting s = false ∨ s.ci.lastClass ≠ some .transit) : egressGrant s = grantTransit s := by
  have waiting : transitWaiting s = true := by simp [transitWaiting, ht]
  have granted : classGranted s = some .transit := by
    unfold classGranted
    rw [waiting]
    cases hw : originatedWaiting s
    · rfl
    · exact if_neg (h.resolve_left (by simp [hw]))
  unfold egressGrant
  rw [if_pos hp, granted]

theorem egressGrant_originated (hp : s.ci.port = .free) (hw : originatedWaiting s = true)
    (h : s.ci.transit = [] ∨ s.ci.lastClass = some .transit) : egressGrant s = grantOriginated s := by
  have granted : classGranted s = some .originated := by
    unfold classGranted
    rw [hw]
    cases ht : transitWaiting s
    · rfl
    · refine if_pos (h.resolve_left fun e => ?_)
      simp [transitWaiting, e] at ht
  unfold egressGrant
  rw [if_pos hp, granted]

/-- Settles O27: the class by what waits, the producer by the order of R17. -/
theorem grantTakesOneFrame : Obligations.GrantTakesOneFrame := by
  intro s hp
  refine ⟨fun f queue ht h => congrArg Host.Outcome.next ?transit, fun hn h => ?originated⟩
  case transit =>
    rw [egressGrant_transit hp ht h]
    unfold grantTransit
    rw [ht]
    rfl
  case originated =>
    have originated (h' : s.ru.slot.isSome = true ∨ (nextChannel s).isSome = true ∨ (noteOffer s).isSome = true) :
        exec .egressGrant s = .next (grantOriginated s) := by
      refine congrArg Host.Outcome.next (egressGrant_originated hp ?_ h)
      simpa [originatedWaiting, hn, or_assoc] using h'
    have note {m : Byte} {o : Offer} (hs : s.ru.slot = none) (hc : ∀ c, (s.chan c).waiting = false) (hm : s.ru.manager = some m)
        (ho : noteOffer s = some o) : exec .egressGrant s = .next (grantNote m o s) := by
      rw [originated (by simp [ho])]
      unfold grantOriginated
      rw [hs, nextChannel_eq_none_iff.2 hc, hm, ho]
    refine ⟨fun r hr => ?reply, fun c level hs hc hl => ?set, fun m n later hs hc hm hd hw hu => ?first,
      fun m n x hs hc hm hd hf => ?resend⟩
    case reply =>
      rw [originated (by simp [hr])]
      unfold grantOriginated
      rw [hr]
      rfl
    case set =>
      rw [originated (by simp [hc])]
      unfold grantOriginated grantSet
      rw [hs, hc]
      simp only [hl]
      rfl
    case first =>
      have offered : noteOffer s = some (.first n) := by
        simp [noteOffer, NoteUnit.offer, NoteUnit.firstOffer, hm, hd, hu, Config.windowMax, hw]
      intro sent
      rw [note hs hc hm offered]
      simp only [grantNote, NoteUnit.granted, hu]
      rfl
    case resend =>
      obtain ⟨due, hd⟩ := List.head?_eq_some_iff.1 hd
      have offered : noteOffer s = some (.resend n) := by
        simp only [noteOffer, NoteUnit.offer, hm, hd, hf]
        rfl
      obtain rfl : n.sequence = x := by simpa using List.find?_some hf
      rw [note hs hc hm offered]
      rfl

/-! ## The end of a transmission (R19, R120, R169) -/

theorem egressDone_busy {p : Producer} {bytes : List Byte} (h : s.ci.port = .busy p bytes) :
    egressDone s = settleIdlePort (deliverDone p (s.withCi { s.ci with port := .free })) := by
  unfold egressDone; rw [h]

/-- Settles O28: the port is freed, then the producer is told. -/
theorem transmissionEnds : Obligations.TransmissionEnds := by
  intro s bytes freed
  have chan (c : Fin 16) : (signal .setsSent freed).chan c = s.chan c := signal_chan _ _ c
  refine ⟨fun h => congrArg Host.Outcome.next (egressDone_busy h), fun h => congrArg Host.Outcome.next (egressDone_busy h),
    fun c h => ⟨fun hs ht => ?sent, fun ht => ?idle⟩, fun h => ?note⟩
  case sent =>
    refine congrArg Host.Outcome.next ((egressDone_busy h).trans (congrArg settleIdlePort ?_))
    show setDone c freed = _
    unfold setDone
    simp only [chan, hs, ht, State.startTimer, signal_timebase]
    rfl
  case idle =>
    refine congrArg Host.Outcome.next ((egressDone_busy h).trans (congrArg settleIdlePort ?_))
    show setDone c freed = _
    unfold setDone
    simp only [chan, ht, Bool.and_false]
    rfl
  case note =>
    intro told
    have done : exec .egressDone s = .next (settleIdlePort (noteDone freed)) := congrArg Host.Outcome.next (egressDone_busy h)
    have starts : ((signal .notesSent freed).nu.resendTimer.isNone && !(signal .notesSent freed).nu.inFlight.isEmpty) =
        (s.nu.resendTimer.isNone && !s.nu.inFlight.isEmpty) := by
      rw [signal_nu_resendTimer, signal_nu_inFlight]
    rw [done]
    unfold noteDone
    dsimp only
    rw [starts]
    refine ⟨fun ht hi => ?_, fun h => ?_⟩
    · rw [if_pos (by simp [ht, hi])]
      simp only [State.startTimer, signal_timebase]
      rfl
    · rw [if_neg]
      obtain h | h := h
      · simp [Option.isSome_iff_ne_none.1 h]
      · simp [h]

/-! ## SET_CHAIN and SET_OVERRIDE (R14, R103) -/

theorem carries_of_payload {l : List Byte} {c : Byte} (h : q.payload = c :: l) : Carries q c (l.length + 1) := by
  simp [Carries, h]

/-- Settles O29: the value in range is stored and answered, another is refused. -/
theorem chainAndHoldSettings : Obligations.ChainAndHoldSettings := by
  intro q rest s v hq
  have chain (h : q.payload = [7, v]) : Executable .setChain q rest s := executable_of_ready hq (carries_of_payload h) rfl
  have hold (h : q.payload = [8, v]) : Executable .setOverride q rest s := executable_of_ready hq (carries_of_payload h) rfl
  have operand {c : Byte} (h : q.payload = [c, v]) : byteAt q.payload 1 = v := by rw [h]; rfl
  refine ⟨fun h hv => (chain h).next_answered ?_, fun h hv => (chain h).next_refused (u := taken rest s) ?_ (by decide),
    fun h hv => (hold h).next_answered ?_, fun h hv => (hold h).next_refused (u := taken rest s) ?_ (by decide)⟩
  · simp only [ownSetChain, operand h, if_neg (show ¬ v = 0 by rw [byte_eq_zero_iff]; omega)]
    rfl
  · simp only [ownSetChain, operand h, if_pos (show v = 0 from (byte_eq_zero_iff v).2 hv)]
  · simp only [ownSetOverride, numAt, operand h, if_pos hv, byteOf, BitVec.ofNat_toNat, BitVec.setWidth_eq]
    rfl
  · simp only [ownSetOverride, numAt, operand h, if_neg (Nat.not_le.2 hv)]

end Sys2Proof.Machine
end

section
/-! The stall supervisors (O40, O41): what one regulator's claim does among the 32, and the law of the supervisors under each operation. -/

namespace Sys2Proof.Machine
open Sys2Proof.Claims

variable {s t u : State} {r q : Fin 32} {p : Fin 256} {f : Int} {c : Fin 16}

/-! ## One claim among 32 -/

/-- What only one regulator's claim changes is, after all 32, what that claim makes of it at its turn. -/
theorem forEachRegulator_at {f : Fin 32 → State → State} {P : State → Prop} (keeps : ∀ r t, P t → P (f r t)) {α : Type}
    (read : State → α) (r : Fin 32) (other : ∀ q t, q ≠ r → P t → read (f q t) = read t) (hs : P s) :
    ∃ u, P u ∧ read u = read s ∧ read (forEachRegulator f s) = read (f r u) := by
  have untouched (l : List (Fin 32)) (hl : r ∉ l) (u : State) (hu : P u) :
      P (l.foldl (fun t q => f q t) u) ∧ read (l.foldl (fun t q => f q t) u) = read u := by
    induction l generalizing u with
    | nil => exact ⟨hu, rfl⟩
    | cons q l ih =>
      obtain ⟨hq, hl⟩ := not_or.1 (mt List.mem_cons.2 hl)
      obtain ⟨hP, hread⟩ := ih hl (f q u) (keeps q u hu)
      exact ⟨hP, hread.trans (other q u (Ne.symm hq) hu)⟩
  obtain ⟨before, after, hsplit⟩ := List.append_of_mem (List.mem_finRange r)
  have nodup := List.nodup_finRange 32
  rw [hsplit, List.nodup_append, List.nodup_cons] at nodup
  obtain ⟨-, ⟨hafter, -⟩, hbefore⟩ := nodup
  obtain ⟨hP, hread⟩ := untouched before (fun h => hbefore r h r (by simp) rfl) s hs
  refine ⟨_, hP, hread, ?_⟩
  unfold forEachRegulator
  rw [hsplit, List.foldl_append, List.foldl_cons]
  exact (untouched after hafter _ (keeps r _ hP)).2

/-! ## Arming, watching and the window timer (R104, R105) -/

theorem arms_iff (l : Option Nat) : arms l = true ↔ Arming l := by
  cases l <;> simp [arms, Arming]

theorem supervised_feedsBack_iff (g : Regulator) (p : Fin 256) : (g.supervised && g.feedsBack p) = true ↔ Watches g p := by
  simp only [Regulator.supervised, Regulator.feedsBack, Regulator.configured, Watches, Bool.and_eq_true, Bool.not_eq_true',
    List.isEmpty_eq_false_iff, decide_eq_true_eq, bne_iff_ne, ne_eq]
  exact ⟨fun ⟨⟨_, hd⟩, hi, hf⟩ => ⟨hi, hf, hd⟩, fun ⟨hi, hf, hd⟩ => ⟨⟨⟨hi, by rw [hf]; rfl⟩, hd⟩, hi, hf⟩⟩

theorem supervised_of_watches {g : Regulator} (h : Watches g p) : g.supervised = true :=
  (Bool.and_eq_true _ _ ▸ (supervised_feedsBack_iff g p).2 h).1

/-- The window timer is started only at a supervisor that is neither STALLED nor running. -/
theorem startWindow_calm (h : s.sup r = { stalled := false, window := none }) :
    startWindow r s = s.setSup r { stalled := false, window := s.startTimer (hundredMs (s.reg r).config.stallWindow) } := by
  unfold startWindow; rw [h]; rfl

theorem startWindow_busy (h : (s.sup r).stalled = true ∨ (s.sup r).window.isSome = true) : startWindow r s = s := by
  unfold startWindow
  rw [if_neg]
  obtain h | h := h
  · simp [h]
  · simp [Option.isSome_iff_ne_none.1 h]

theorem supervisor_cases (x : Supervisor) : x = { stalled := false, window := none } ∨ x.stalled = true ∨ x.window.isSome = true := by
  obtain ⟨stalled, window⟩ := x
  cases stalled <;> cases window <;> simp

theorem startWindow_sup_ne (h : q ≠ r) : (startWindow r s).sup q = s.sup q := by
  unfold startWindow; dsimp only; split
  · exact s.setSup_ne _ h
  · rfl

/-! ## One feedback reading, one staleness expiry (R106, R108) -/

/-- What the claim of a regulator does at a feedback reading. -/
theorem feedbackReading_above (h : Watches (s.reg r) p) (hf : (s.reg r).config.stallFloor ≤ f) :
    feedbackReading p f r s = clearStall r f (stopWindow r s) := by
  unfold feedbackReading
  dsimp only
  rw [if_pos ((supervised_feedsBack_iff _ _).2 h), if_pos hf]

theorem feedbackReading_below (h : Watches (s.reg r) p) (hf : f < (s.reg r).config.stallFloor) :
    feedbackReading p f r s = if armed s r then startWindow r s else s := by
  unfold feedbackReading
  dsimp only
  rw [if_pos ((supervised_feedsBack_iff _ _).2 h), if_neg (Int.not_le.2 hf)]

theorem feedbackReading_elsewhere (h : ¬ Watches (s.reg r) p) : feedbackReading p f r s = s := by
  unfold feedbackReading
  dsimp only
  rw [if_neg (mt (supervised_feedsBack_iff _ _).1 h)]

theorem clearStall_sup (r : Fin 32) (f : Int) (s : State) (q : Fin 32) :
    (clearStall r f s).sup q = if q = r then { s.sup r with stalled := false } else s.sup q := by
  unfold clearStall
  split
  · simp [State.setSup_read]
  · next h =>
    split
    · next e => rw [e]; simp only [Bool.not_eq_true] at h; rw [← h]
    · rfl

theorem feedbackReading_sup_ne (h : q ≠ r) : (feedbackReading p f r s).sup q = s.sup q := by
  unfold feedbackReading
  dsimp only
  (repeat' split)
  · rw [clearStall_sup, if_neg h]
    exact s.setSup_ne _ h
  · exact startWindow_sup_ne h
  all_goals rfl

theorem feedbackWentStale_sup_ne (h : q ≠ r) : (feedbackWentStale p r s).sup q = s.sup q := by
  unfold feedbackWentStale
  dsimp only
  split
  · exact startWindow_sup_ne h
  · rfl

/-! ## The law of the supervisors, operation by operation -/

/-- One supervisor is written, and the alert record told as it then stands. -/
theorem SupervisorLaw.setSup (h : SupervisorLaw s) {x : Supervisor} (hi : (s.reg r).supervised = false → x = Supervisor.reset)
    (hw : x.window.isSome → armed s r = true ∧ x.stalled = false) (hr : ∀ q, t.reg q = s.reg q) (hc : ∀ c, t.chan c = s.chan c)
    (hp : ∀ q, t.sup q = (s.setSup r x).sup q)
    (hn : ∀ q, q ∈ t.nu.alert.stalled ↔ if q = r then x.stalled = true else q ∈ s.nu.alert.stalled) : SupervisorLaw t where
  inactive q hq := by
    rw [hp, State.setSup_read]
    rw [hr] at hq
    split
    · next e => exact hi (e ▸ hq)
    · exact h.inactive q hq
  window q hq := by
    have same : armed t q = armed s q := by simp only [armed, hr, hc]
    rw [hp, State.setSup_read] at hq ⊢
    rw [same]
    split at hq
    · next e => rw [if_pos e, e]; exact hw hq
    · next e => rw [if_neg e]; exact h.window q hq
  alert q := by
    rw [hn, hp, State.setSup_read]
    split
    · rfl
    · exact h.alert q

theorem SupervisorLaw.startWindow (h : SupervisorLaw s) (hs : (s.reg r).supervised = true) (ha : armed s r = true) :
    SupervisorLaw (startWindow r s) := by
  obtain hc | hb := supervisor_cases (s.sup r)
  · rw [startWindow_calm hc]
    refine h.setSup (by simp [hs]) (fun _ => ⟨ha, rfl⟩) (fun _ => rfl) (fun _ => rfl) (fun _ => rfl) fun q => ?_
    split
    · next e => rw [e, State.setSup_nu, h.alert r, hc]
    · rfl
  · rw [startWindow_busy hb]
    exact h

theorem SupervisorLaw.stopWindow (h : SupervisorLaw s) : SupervisorLaw (stopWindow r s) := by
  refine h.setSup (r := r) (fun hs => ?_) (fun hw => by simp at hw) (fun _ => rfl) (fun _ => rfl) (fun _ => rfl) fun q => ?_
  · rw [h.inactive r hs]; rfl
  · split
    · next e => rw [e]; exact h.alert r
    · rfl

theorem SupervisorLaw.clearStall (h : SupervisorLaw s) (hs : (s.reg r).supervised = true) : SupervisorLaw (clearStall r f s) := by
  unfold Machine.clearStall
  split
  · refine h.setSup (r := r) (x := { s.sup r with stalled := false }) (by simp [hs]) (fun hw => ⟨(h.window r hw).1, rfl⟩)
      (fun _ => by simp) (fun _ => by simp) (fun _ => by simp) fun q => ?_
    simp only [raise_nu_alert, tellStalled, State.withNu_nu, State.setSup_nu, if_false, Bool.false_eq_true, mem_removeIndex]
    split
    · next e => simp [e]
    · next e => simp [e]
  · exact h

theorem SupervisorLaw.feedbackReading (h : SupervisorLaw s) : SupervisorLaw (feedbackReading p f r s) := by
  by_cases hw : Watches (s.reg r) p
  · obtain hf | hf := le_or_gt (s.reg r).config.stallFloor f
    · rw [feedbackReading_above hw hf]
      exact h.stopWindow.clearStall (by rw [stopWindow_reg]; exact (supervised_of_watches hw))
    · rw [feedbackReading_below hw hf]
      split
      · next ha => exact h.startWindow (supervised_of_watches hw) ha
      · exact h
  · rw [feedbackReading_elsewhere hw]
    exact h

theorem SupervisorLaw.handFeedback (h : SupervisorLaw s) : SupervisorLaw (handFeedback p f s) :=
  forEachRegulator_keeps _ _ (fun _ _ hu => hu.feedbackReading) h

theorem SupervisorLaw.handStaleness (h : SupervisorLaw s) : SupervisorLaw (handStaleness p s) := by
  refine forEachRegulator_keeps _ _ (fun r u hu => ?_) h
  unfold feedbackWentStale
  dsimp only
  split
  · next hc =>
    simp only [Bool.and_eq_true] at hc
    obtain ⟨⟨hs, -⟩, ha⟩ := hc
    exact hu.startWindow hs ha
  · exact hu

/-! ## A change of an acked level (R105, R115) -/

/-- R68: a configured regulator that names a channel is the one found for it. -/
theorem RegulatorLaw.namerOf_eq (law : RegulatorLaw s) (h : (s.reg r).namesChannel c = true) : namerOf s c = some r := by
  unfold namerOf
  cases hf : (List.finRange 32).find? fun q => (s.reg q).namesChannel c with
  | none => exact absurd h (by simpa using List.find?_eq_none.1 hf r (List.mem_finRange r))
  | some q =>
    have hq : (s.reg q).namesChannel c = true := List.find?_some (p := fun q => (s.reg q).namesChannel c) hf
    rw [law.channels q r c hq h]

theorem namesChannel_iff (g : Regulator) (c : Fin 16) : g.namesChannel c = true ↔ g.config.inputs ≠ [] ∧ g.config.actuator = c := by
  simp [Regulator.namesChannel, Regulator.configured]

theorem feedbackStale_iff (h : (s.reg r).config.feedback = some p) :
    feedbackStale s r = true ↔ ∃ q, s.point p = some q ∧ q.runtime.band = .stale := by
  unfold feedbackStale
  rw [h]
  simp only [Option.any_eq_true, decide_eq_true_eq]

/-- What the supervisor of the regulator that names the channel makes of the change. -/
theorem ackedChanged_named {old : Option Nat} (h : namerOf s c = some r) (hs : (s.reg r).supervised = true) :
    ackedChanged c old s =
      if arms old then (if arms (s.chan c).acked then s else stopWindow r s)
      else if arms (s.chan c).acked then armSupervisor r s else s := by
  unfold ackedChanged
  rw [h]
  dsimp only
  rw [if_pos hs]
  cases arms old <;> cases arms (s.chan c).acked <;> rfl

/-! ## The statements -/

/-- What a regulator's claim on a supervisor reads of the rest of the part stands as in `s`. -/
structure SupervisedAs (s u : State) : Prop where
  timebase : u.timebase = s.timebase
  regs : ∀ r, u.reg r = s.reg r
  chans : ∀ c, u.chan c = s.chan c

theorem SupervisedAs.armed_iff (h : SupervisedAs s u) (r : Fin 32) :
    armed u r = true ↔ Arming (s.chan (s.reg r).config.actuator).acked := by
  unfold armed
  rw [h.regs, h.chans, arms_iff]

/-- R106: what a feedback reading leaves of one supervisor. -/
theorem handFeedback_sup (p : Fin 256) (f : Int) (r : Fin 32) (s : State) :
    ∃ u, SupervisedAs s u ∧ u.sup r = s.sup r ∧ (handFeedback p f s).sup r = (feedbackReading p f r u).sup r :=
  forEachRegulator_at (P := SupervisedAs s) (fun r t h => ⟨by simp [h.timebase], by simp [h.regs], by simp [h.chans]⟩)
    (fun t => t.sup r) r (fun _ _ hq _ => feedbackReading_sup_ne hq.symm) ⟨rfl, fun _ => rfl, fun _ => rfl⟩

theorem handStaleness_sup (p : Fin 256) (r : Fin 32) (s : State) :
    ∃ u, SupervisedAs s u ∧ u.sup r = s.sup r ∧ (handStaleness p s).sup r = (feedbackWentStale p r u).sup r :=
  forEachRegulator_at (P := SupervisedAs s) (fun r t h => ⟨by simp [h.timebase], by simp [h.regs], by simp [h.chans]⟩)
    (fun t => t.sup r) r (fun _ _ hq _ => feedbackWentStale_sup_ne hq.symm) ⟨rfl, fun _ => rfl, fun _ => rfl⟩

theorem startWindow_sup_calm (h : SupervisedAs s u) (hc : u.sup r = { stalled := false, window := none }) :
    (startWindow r u).sup r =
      { stalled := false, window := some (s.timebase + BitVec.ofNat 32 ((s.reg r).config.stallWindow * 100)) } := by
  rw [startWindow_calm hc, State.setSup_self, ← h.timebase, ← h.regs r]
  rfl

/-- Settles O40: the readings regulator by regulator, the changes of an acked level by the one regulator that names the channel. -/
theorem stallSupervision : Obligations.StallSupervision := by
  refine ⟨fun p f s => ?readings, fun p f r s hw hf hs => ?clears, fun c old r p s law hw hc => ?acked⟩
  case readings =>
    intro t
    have frame : SameAround s t := by constructor <;> simp [t]
    refine ⟨frame, by simp [t], by simp [t], by simp [t], by simp [t], fun r hw => ?_, fun r hw hf => ?_, fun r hw hf ha hs => ?_,
      fun r hw hf h => ?_, fun h => h.handFeedback⟩
    all_goals
      obtain ⟨u, hu, hsup, ht⟩ := handFeedback_sup p f r s
      rw [← hu.regs r] at hw
      rw [show t.sup r = _ from ht]
    · rw [feedbackReading_elsewhere hw, hsup]
    · rw [feedbackReading_above hw (by rwa [hu.regs]), clearStall_sup, if_pos rfl]
      simp [stopWindow]
    · rw [feedbackReading_below hw (by rwa [hu.regs]), if_pos ((hu.armed_iff r).2 ha), startWindow_sup_calm hu (hsup.trans hs)]
    · rw [feedbackReading_below hw (by rwa [hu.regs])]
      obtain h | h := h
      · rw [if_neg (mt (hu.armed_iff r).1 h), hsup]
      · rw [startWindow_busy (by rwa [hsup]), ite_self, hsup]
  case clears =>
    rw [feedbackReading_above hw hf]
    unfold clearStall stopWindow
    simp only [State.setSup_self, hs, if_true, State.setSup_setSup]
    rfl
  case acked =>
    have named : namerOf s c = some r := law.namerOf_eq ((namesChannel_iff _ _).2 ⟨hw.1, hc⟩)
    have change := ackedChanged_named (old := old) named (supervised_of_watches hw)
    have yes {l : Option Nat} (h : Arming l) : arms l = true := (arms_iff l).2 h
    have no {l : Option Nat} (h : ¬ Arming l) : ¬ arms l = true := mt (arms_iff l).1 h
    have starts : (s.reg r).config.feedback = some p := hw.2.1
    rw [change]
    refine ⟨fun ho hn => ?_, fun ho hn hb hs => ?_, fun ho hn h => ?_, fun h => ?_⟩
    · rw [if_pos (yes ho), if_neg (no hn)]
      rfl
    · rw [if_neg (no ho), if_pos (yes hn)]
      unfold armSupervisor
      rw [if_pos ((feedbackStale_iff starts).2 hb), startWindow_calm hs]
      rfl
    · rw [if_neg (no ho), if_pos (yes hn)]
      unfold armSupervisor
      split
      · next hb =>
        obtain ⟨q, hq, hband⟩ := (feedbackStale_iff starts).1 hb
        exact startWindow_busy (.inl (h.resolve_left fun h => h q hq hband))
      · rfl
    · by_cases ho : Arming old
      · rw [if_pos (yes ho), if_pos (yes (h.1 ho))]
      · rw [if_neg (no ho), if_neg (no fun hn => ho (h.2 hn))]

theorem feedbackWentStale_watches (h : Watches (s.reg r) p) : feedbackWentStale p r s = if armed s r then startWindow r s else s := by
  unfold feedbackWentStale
  dsimp only
  rw [(supervised_feedsBack_iff _ _).2 h, Bool.true_and]

theorem feedbackWentStale_elsewhere (h : ¬ Watches (s.reg r) p) : feedbackWentStale p r s = s := by
  unfold feedbackWentStale
  dsimp only
  rw [Bool.eq_false_iff.2 (mt (supervised_feedsBack_iff _ _).1 h), Bool.false_and, if_neg Bool.false_ne_true]

/-- Settles O41: the staleness expiry writes the record, raises its note and hands itself to the supervisors. -/
theorem stalenessAndWindowExpiries : Obligations.StalenessAndWindowExpiries := by
  refine ⟨fun i p s hp hd => ?staleness, fun r l s hd hl => congrArg Host.Outcome.next ?window⟩
  case staleness =>
    intro staled noted
    have noted_frame : noted.timebase = s.timebase ∧ noted.ci = s.ci ∧ noted.ru = s.ru ∧ noted.sweep = s.sweep ∧ noted.pending = s.pending ∧
        noted.turns = s.turns ∧ noted.points = staled.points ∧ noted.regs = s.regs ∧ noted.om = s.om ∧ noted.chans = s.chans ∧
        noted.sups = s.sups := by
      simp only [noted]
      split <;> simp [staled]
    obtain ⟨timebase, ci, ru, sweep, pending, turns, points, regs, om, chans, sups⟩ := noted_frame
    have reg (r : Fin 32) : noted.reg r = s.reg r := by simp only [State.reg, regs]
    have chan (c : Fin 16) : noted.chan c = s.chan c := by simp only [State.chan, chans]
    have sup (r : Fin 32) : noted.sup r = s.sup r := by simp only [State.sup, sups]
    have expired : exec (.stalenessExpiry i) s = .next (handStaleness i noted) := by
      refine congrArg Host.Outcome.next ?_
      unfold stalenessExpiry
      simp only [hp, hd, if_true]
      rfl
    refine ⟨_, expired, ⟨by simp [timebase], by simp [ci], by simp [ru], by simp [sweep], by simp [pending], by simp [turns]⟩,
      by simp [points], by simp [regs], by simp [om], by simp [chans], by simp, by simp, fun r hw ha hs => ?_, fun r h => ?_⟩
    all_goals
      obtain ⟨u, hu, hsup, ht⟩ := handStaleness_sup i r noted
      have same : SupervisedAs s u :=
        ⟨hu.timebase.trans timebase, fun r => (hu.regs r).trans (reg r), fun c => (hu.chans c).trans (chan c)⟩
      rw [sup r] at hsup
      rw [ht]
    · rw [← same.regs r] at hw
      rw [feedbackWentStale_watches hw, if_pos ((same.armed_iff r).2 ha), startWindow_sup_calm same (hsup.trans hs)]
    · by_cases hw : Watches (s.reg r) i
      · have hw' : Watches (u.reg r) i := by rwa [same.regs]
        rw [feedbackWentStale_watches hw']
        obtain h | h | h := h
        · exact absurd hw h
        · rw [if_neg (mt (same.armed_iff r).1 h), hsup]
        · rw [startWindow_busy (by rwa [hsup]), ite_self, hsup]
      · rw [feedbackWentStale_elsewhere (by rwa [same.regs]), hsup]
  case window =>
    unfold windowExpiry
    rw [if_pos hd]
    simp only [hl]
    rfl

end Sys2Proof.Machine
end

section
/-! Regulators and channels in the words of the statements: what a desired-level write, a ceiling, an evaluation and a handover leave; with
these the requests of chapters 4 and 7 (O33, O46 to O50) and the channels' timers (O52). -/

namespace Sys2Proof.Machine
open Sys2Proof.Claims

variable {s t u : State} {r : Fin 32} {c : Fin 16} {k : Channel} {q : Request} {rest : List Request} {ref : EntryRef}

/-! ## Words for channels (R112, R117, R118) -/

theorem mustSend_iff (k : Channel) : (k.state = .idle && k.mustSend) = true ↔
    k.state = .idle ∧ k.config.node ≠ 0 ∧ k.desired ≠ none ∧ k.acked ≠ k.desired := by
  simp [Channel.mustSend, Channel.bound, Option.isSome_iff_ne_none, and_assoc]

theorem sendCheck_eq_checked (k : Channel) : k.sendCheck = checked k := by
  unfold Channel.sendCheck checked
  simp only [mustSend_iff]
  rfl

theorem writeDesired_eq_desiring (l : Nat) (k : Channel) : k.writeDesired l = desiring l k := by
  unfold Channel.writeDesired desiring Channel.markOpened
  simp only [sendCheck_eq_checked]
  by_cases h : k.state = .idle
  · simp only [h, true_and, if_true]
  · simp only [h, false_and, if_false]
    unfold checked
    rw [if_neg fun h' => h h'.1]

theorem faulted_eq_isFaulted (k : Channel) : k.faulted = isFaulted k := rfl

theorem exchangeOpen_iff (k : Channel) : k.exchangeOpen = true ↔ ExchangeOpen k := by
  simp [Channel.exchangeOpen, ExchangeOpen]

/-! ## Words for regulators (R70, R80, R89) -/

theorem assertCeiling_eq_driven (r : Fin 32) (s : State) : assertCeiling r s = driven r s := by
  unfold assertCeiling writeDesired driven
  simp only [writeDesired_eq_desiring]
  rfl

theorem resumeControl_eq (r : Fin 32) (s : State) :
    startPeriod r (resumeControl r s) = controlled r s := by
  have phase : (overriding s && (s.reg r).config.participate) = true ↔ s.om.phase ≠ .clear ∧ (s.reg r).config.participate = true := by
    simp [overriding]
  unfold controlled resumeControl
  simp only [phase, assertCeiling_eq_driven]
  rfl

/-! ## Entries completed (R140, R143, R155) -/

theorem markDone_eq (ref : EntryRef) (x : Reply) (s : State) :
    (s.withRu (s.ru.markDone ref x)).withRu ((s.withRu (s.ru.markDone ref x)).ru.place x) = completedEntry ref x s := by
  rw [place_eq_placed]
  rfl

theorem completeEntry_ok (ref : EntryRef) (code : RequestCode) (data : List Byte) (s : State) :
    completeEntry ref code .ok data s =
      completedEntry ref { src := ref.src, seq := ref.seq, code := code.byte, status := .ok, data := data } s := by
  unfold completeEntry
  dsimp only
  rw [formReply_ok rfl, markDone_eq]

theorem completeEntry_cancelled (ref : EntryRef) (index : Byte) (s : State) :
    completeEntry ref .takeManual .cancelled [index] s = cancelled ref index s := by
  unfold completeEntry cancelled
  dsimp only
  rw [formReply_refused Status.noConfusion, markDone_eq]
  rfl

theorem cancelHandover_handover (h : (s.reg r).state = .handover) (hr : (s.reg r).handover = some ref) :
    cancelHandover r s = cancelled ref (BitVec.ofNat 8 r.val) s := by
  unfold cancelHandover
  rw [if_pos h, hr]
  exact completeEntry_cancelled ref _ s

theorem cancelHandover_other (h : (s.reg r).state ≠ .handover) : cancelHandover r s = s := by
  unfold cancelHandover
  rw [if_neg h]

@[simp] theorem cancelled_reg (ref : EntryRef) (x : Byte) (s : State) (r : Fin 32) : (cancelled ref x s).reg r = s.reg r := signal_reg _ _ r

/-! ## Evaluation (R72 to R79) -/

/-- R33, R72: the fresh values of an input list. -/
theorem gather_eq (s : State) (l : List (Fin 256)) : gather s l = l.filterMap (fun i => match s.point i with
    | none => none
    | some p => if p.runtime.band = .unknown ∨ p.runtime.band = .stale then none else p.runtime.filtered) := by
  unfold gather
  congr 1
  funext i
  cases s.point i with
  | none => rfl
  | some p =>
    by_cases h : p.runtime.band = .unknown ∨ p.runtime.band = .stale
    · refine Eq.trans ?_ (if_pos h).symm
      obtain h | h := h <;> simp [freshValue, Point.fresh, h]
    · refine Eq.trans ?_ (if_neg h).symm
      have fresh : p.fresh = true := by simpa [Point.fresh] using h
      simp [freshValue, fresh]

theorem evaluate_stale (h : gather s (s.reg r).config.inputs = []) (notes : Bool) : evaluate notes r s = evaluateStale notes r s := by
  unfold evaluate; simp [h]

theorem evaluate_fresh (h : gather s (s.reg r).config.inputs ≠ []) (notes : Bool) :
    evaluate notes r s = evaluateFresh notes (gather s (s.reg r).config.inputs) r s := by
  unfold evaluate; simp [h]

/-- R74: the combined value. -/
theorem combineValues_eq {m : Combine} {l : List Int} {x : Int} (hmax : m = .max → x ∈ l ∧ ∀ y ∈ l, y ≤ x)
    (hmean : m = .mean → x = l.sum.tdiv l.length) : combineValues m l = x := by
  cases m with
  | max =>
    have greatest : l.max? = some x := List.max?_eq_some_iff.2 (hmax rfl)
    simp [combineValues, greatest]
  | mean => exact (hmean rfl).symm

/-- R75: the off latch after the test. -/
theorem offLatchAfter_eq (g : Regulator) (x : Int) : offLatchAfter g x = (g.config.offAllowed && (match g.curve with
    | [] => g.offLatched
    | b :: _ => if g.offLatched then decide (x < b.input) else decide (x < b.input - g.config.offHyst))) := by
  unfold offLatchAfter
  cases g.config.offAllowed
  · rfl
  · simp only [Bool.not_true, Bool.false_eq_true, if_false, Bool.true_and]
    cases g.curve with
    | nil => rfl
    | cons b l =>
      cases g.offLatched
      · by_cases h : x < b.input - g.config.offHyst <;> simp [h]
      · by_cases h : b.input ≤ x
        · simp [h, not_lt_of_ge h]
        · simp [h, lt_of_not_ge h]

/-- Settles O46: the expiry by the regulator's state, the evaluation by whether a value is fresh. -/
theorem periodExpiryAndEvaluation : Obligations.PeriodExpiryAndEvaluation := by
  intro r s g fresh written
  have gathered : gather s g.config.inputs = fresh := gather_eq s _
  refine ⟨fun hd => ⟨fun hs => ?controls, fun hs => ?overrides, fun hs => ?rests⟩, fun h => ?stale, fun x h hmax hmean => ?fresh⟩
  case controls =>
    refine congrArg Host.Outcome.next ?_
    unfold periodExpiry
    dsimp only
    rw [if_pos hd]
    obtain hs | hs := hs <;> rw [show (s.reg r).state = _ from hs] <;> rfl
  case overrides =>
    refine congrArg Host.Outcome.next ?_
    unfold periodExpiry
    dsimp only
    rw [if_pos hd, show (s.reg r).state = _ from hs, ← assertCeiling_eq_driven]
    rfl
  case rests =>
    refine congrArg Host.Outcome.next ?_
    unfold periodExpiry
    dsimp only
    rw [if_pos hd]
    obtain hs | hs | hs := hs <;> rw [show (s.reg r).state = _ from hs]
  case stale =>
    intro moved
    rw [evaluate_stale (gathered.trans h)]
    unfold evaluateStale writeDesired raiseRegState
    dsimp only
    by_cases hs : g.state = .failsafe
    · have hs' : (s.reg r).state = .failsafe := hs
      simp only [hs, hs', bne_self_eq_false, Bool.and_false, Bool.false_eq_true, if_false, if_true, writeDesired_eq_desiring]
      rfl
    · have hs' : (true && (s.reg r).state != .failsafe) = true := by simpa using hs
      rw [if_pos hs', if_neg hs, raise_chan, writeDesired_eq_desiring]
      rfl
  case fresh =>
    intro latched level moved
    have combined : combineValues (s.reg r).config.combine fresh = x := combineValues_eq hmax hmean
    have latch : offLatchAfter (s.reg r) x = latched := offLatchAfter_eq _ x
    rw [evaluate_fresh (by rw [gathered]; exact h), gathered]
    unfold evaluateFresh writeDesired raiseRegState
    simp only [combined, latch]
    by_cases hs : g.state = .failsafe
    · have hs' : (true && decide ((s.reg r).state = .failsafe)) = true := by simpa using hs
      rw [if_pos hs', if_pos hs, raise_chan, writeDesired_eq_desiring]
      rfl
    · have hs' : ¬ (true && decide ((s.reg r).state = .failsafe)) = true := by simpa using hs
      rw [if_neg hs', if_neg hs, writeDesired_eq_desiring]
      rfl

/-! ## Index operands (section 2.3 of the conventions) -/

theorem regulatorIndex?_some {m : Nat} (h : m = r.val) : regulatorIndex? m = some r := by
  subst h; simp [regulatorIndex?]

theorem regulatorIndex?_none {m : Nat} (h : 32 ≤ m) : regulatorIndex? m = none := by
  simp [regulatorIndex?]; omega

theorem channelIndex?_some {m : Nat} (h : m = c.val) : channelIndex? m = some c := by
  subst h; simp [channelIndex?]

theorem channelIndex?_none {m : Nat} (h : 16 ≤ m) : channelIndex? m = none := by
  simp [channelIndex?]; omega

/-- Settles O33: each owner reads its index first. -/
theorem indicesOutOfRangeAreRefused : Obligations.IndicesOutOfRangeAreRefused := by
  intro q rest s hq
  have refused {code : RequestCode} {n : Nat} {owner : Owner} (hc : Carries q code.byte n) (hn : code.admits n = true)
      (ho : owner q (taken rest s) = (taken rest s, refuse .range)) :
      (.next (takeRequest (hasCode code) owner s) : Host.Outcome State Fault Refusal) = .next (refusedWith q .range (taken rest s)) :=
    (executable_of_ready hq hc hn).next_refused ho (by decide)
  refine ⟨fun h => ?regulators, fun h => ?channels⟩
  case regulators =>
    have index : regulatorIndex? (numAt q.payload 1) = none := regulatorIndex?_none h
    refine ⟨fun hc => refused (code := .readRegulator) hc rfl ?_, fun hc => refused (code := .enableRegulator) hc rfl ?_,
      fun hc => refused (code := .disableRegulator) hc rfl ?_, fun hc => refused (code := .takeManual) hc rfl ?_,
      fun hc => refused (code := .setManualLevel) hc rfl ?_, fun hc => refused (code := .releaseManual) hc rfl ?_,
      fun n hlow hhigh hc => refused (code := .writeRegulator) hc (by simp [RequestCode.admits, hlow, hhigh]) ?_,
      fun n hn hc => refused (code := .writeCurve) hc (by simp [RequestCode.admits]; omega) ?_⟩
    · simp only [ownReadRegulator, index]
    · simp only [ownEnableRegulator, index]
    · simp only [ownDisableRegulator, index]
    · simp only [ownTakeManual, index]
    · simp only [ownSetManualLevel, index]
    · simp only [ownReleaseManual, index]
    · simp only [ownWriteRegulator, index]
    · simp only [ownWriteCurve, index]
  case channels =>
    have index : channelIndex? (numAt q.payload 1) = none := channelIndex?_none h
    refine ⟨fun hc => refused (code := .writeActuator) hc rfl ?_, fun hc => refused (code := .readActuator) hc rfl ?_,
      fun hc => refused (code := .resetActuator) hc rfl ?_⟩
    · simp only [ownWriteActuator, index]
    · simp only [ownReadActuator, index]
    · simp only [ownResetActuator, index]

/-! ## WRITE_REGULATOR and WRITE_CURVE (R82, R84 to R86) -/

theorem pointsUsable_iff (s : State) (c : RegulatorConfig) : pointsUsable s c = true ↔
    (∀ i ∈ c.inputs, s.point i ≠ none) ∧ (∀ i, c.feedback = some i → ∃ p, s.point i = some p ∧ p.config.kind = .speed) := by
  simp only [pointsUsable, Bool.and_eq_true, List.all_eq_true, Option.isSome_iff_ne_none, Option.all_eq_true, Option.any_eq_true,
    decide_eq_true_eq]

theorem structuralChange_iff (a b : RegulatorConfig) : structuralChange a b = true ↔
    b.inputs ≠ a.inputs ∨ b.combine ≠ a.combine ∨ b.actuator ≠ a.actuator ∨ b.feedback ≠ a.feedback := by
  simp only [structuralChange, Bool.not_eq_true', Bool.and_eq_false_iff, decide_eq_false_iff_not, or_assoc, ne_eq]
  simp only [eq_comm]

theorem channelTaken_iff (s : State) (r : Fin 32) (c : Fin 16) : channelTaken s r c = true ↔
    ∃ o, o ≠ r ∧ (s.reg o).config.inputs ≠ [] ∧ (s.reg o).config.actuator = c := by
  simp only [channelTaken, List.any_eq_true, List.mem_finRange, true_and, Bool.and_eq_true, decide_eq_true_eq, namesChannel_iff]

/-- Settles O47: the stages of R84 in order, then what a change of participate does; the curve by R86. -/
theorem writeRegulatorAndCurve : Obligations.WriteRegulatorAndCurve := by
  intro q rest r n s hq hr g
  have index : regulatorIndex? (numAt q.payload 1) = some r := regulatorIndex?_some hr
  refine ⟨fun hc hlow hhigh => ?regulator, fun hc hn => ?curve⟩
  case regulator =>
    have hx : Executable .writeRegulator q rest s := executable_of_ready hq hc (by simp [RequestCode.admits, hlow, hhigh])
    refine ⟨fun h => hx.next_refused (u := taken rest s) ?_ (by decide), fun c h => ?_⟩
    · simp only [ownWriteRegulator, index, h]
    · intro usable structural named w ok
      have own : ownWriteRegulator q (taken rest s) =
          if pointsUsable s c = true then
            if g.state ≠ .disabled ∧ structuralChange g.config c = true then (taken rest s, refuse .state)
            else if channelTaken s r c.actuator = true then (taken rest s, refuse .conflict)
            else (participateChange r g c w, .reply .ok [byteOf r.val])
          else (taken rest s, refuse .range) := by
        simp only [ownWriteRegulator, index, h]
        show (if (!pointsUsable s c) = true then _ else if (g.state != .disabled && structuralChange g.config c) = true then _ else
          if channelTaken s r c.actuator = true then _ else _) = _
        cases pointsUsable s c <;> simp [w]
        rfl
      have usable_iff : pointsUsable s c = true ↔ usable := pointsUsable_iff s c
      have structural_iff : structuralChange g.config c = true ↔ structural := structuralChange_iff _ _
      have named_iff : channelTaken s r c.actuator = true ↔ named := channelTaken_iff s r _
      refine ⟨fun hu => hx.next_refused (u := taken rest s) ?_ (by decide),
        fun hu hg hs => hx.next_refused (u := taken rest s) ?_ (by decide),
        fun hu hg hn => hx.next_refused (u := taken rest s) ?_ (by decide), fun hu hg hn => ?_⟩
      · rw [own, if_neg (mt usable_iff.1 hu)]
      · rw [own, if_pos (usable_iff.2 hu), if_pos ⟨hg, structural_iff.2 hs⟩]
      all_goals
        have allowed : ¬ (g.state ≠ .disabled ∧ structuralChange g.config c = true) := fun h =>
          (hg.resolve_left h.1) (structural_iff.1 h.2)
      · rw [own, if_pos (usable_iff.2 hu), if_neg allowed, if_pos (named_iff.2 hn)]
      · rw [if_pos (usable_iff.2 hu), if_neg allowed, if_neg (mt named_iff.1 hn)] at own
        have done {v : State} (hv : participateChange r g c w = v) : ok v := hx.next_answered (by rw [own, hv]; rfl)
        have phase : overriding w = true ↔ s.om.phase ≠ .clear := by simp [overriding, w, taken]
        refine ⟨fun hp hcp hgs => done ?_, fun hp hcp hgs hph => done ?_, fun h => done ?_⟩ <;> unfold participateChange
        · simp only [hp, hcp, hgs]; rfl
        · have controlling : (decide (g.state = .auto) || decide (g.state = .failsafe)) = true := by simpa using hgs
          simp only [hp, hcp, controlling, phase.2 hph, assertCeiling_eq_driven]; rfl
        · obtain h | ⟨hcp, hgs⟩ | ⟨hcp, hgs⟩ := h
          · rw [h]; cases c.participate <;> rfl
          · simp [hcp, hgs]
          · simp only [hcp, Bool.not_true, Bool.and_false, Bool.false_eq_true, if_false, Bool.and_true]
            split
            · rw [if_neg]
              obtain ⟨ha, hf⟩ | hph := hgs
              · simp [ha, hf]
              · simp [overriding, w, taken, hph]
            · rfl
  case curve =>
    have hx : Executable .writeCurve q rest s := executable_of_ready hq hc (by simp [RequestCode.admits]; omega)
    intro curve valid
    have valid_iff : curveValid curve = true ↔ valid := curveValid_iff
    refine ⟨fun h => hx.next_answered ?_, fun h => hx.next_refused (u := taken rest s) ?_ (by decide)⟩
    · simp only [ownWriteCurve, index]
      exact if_pos (valid_iff.2 h)
    · simp only [ownWriteCurve, index]
      exact if_neg (mt valid_iff.1 h)

end Sys2Proof.Machine
end

section
/-! What putting a regulator under control leaves, and the requests that begin and end control (O48 to O50). -/

namespace Sys2Proof.Machine
open Sys2Proof.Claims

variable {s t u : State} {r : Fin 32} {c : Fin 16} {k : Channel} {q : Request} {rest : List Request} {ref : EntryRef}

/-! ## A regulator under control (R73, R77, R80) -/

/-- The regulator stands in the controlling state `x` with output `l`, within its ceiling and failsafe level, which its channel is told; every
other regulator and channel is as it was. -/
structure Steers (r : Fin 32) (x : RegulatorState) (l : Nat) (s t : State) : Prop where
  controls : x.controlling = true
  level : l ≤ max (s.reg r).config.ceiling (s.reg r).config.failsafe
  regs : ∃ b, ∀ q, t.reg q = (s.setReg r { s.reg r with state := x, output := some l, offLatched := b }).reg q
  chans : ∀ c, t.chan c = (writeDesired (s.reg r).config.actuator l s).chan c

theorem slewOutput_le (o : Option Nat) (target slew ceiling : Nat) : slewOutput o target slew ceiling ≤ ceiling := by
  unfold slewOutput
  cases o with
  | none => exact Nat.min_le_right _ _
  | some o => exact Nat.min_le_right _ _

/-- The record written, a note perhaps raised, the channel told. -/
theorem Steers.of_written {x : RegulatorState} {l : Nat} {b : Bool} {n : State} (hx : x.controlling = true)
    (hl : l ≤ max (s.reg r).config.ceiling (s.reg r).config.failsafe)
    (hr : ∀ q, n.reg q = (s.setReg r { s.reg r with state := x, output := some l, offLatched := b }).reg q)
    (hc : ∀ c, n.chan c = s.chan c) : Steers r x l s (writeDesired (s.reg r).config.actuator l n) where
  controls := hx
  level := hl
  regs := ⟨b, fun q => by rw [writeDesired_reg, hr]⟩
  chans c := by simp only [writeDesired, State.setChan_read, hc]

theorem evaluateStale_steers (notes : Bool) (r : Fin 32) (s : State) :
    Steers r .failsafe (s.reg r).config.failsafe s (evaluateStale notes r s) := by
  refine .of_written (b := (s.reg r).offLatched) rfl (Nat.le_max_right _ _) (fun q => ?_) (fun c => ?_) <;>
    split <;> simp [raiseRegState]

theorem evaluateFresh_steers (notes : Bool) (vs : List Int) (r : Fin 32) (s : State) :
    ∃ l, Steers r .auto l s (evaluateFresh notes vs r s) := by
  unfold evaluateFresh
  extract_lets g x latched target level moved noted
  have noted_eq : (∀ q, noted.reg q = moved.reg q) ∧ ∀ c, noted.chan c = moved.chan c := by
    simp only [noted]
    split <;> simp [raiseRegState]
  exact ⟨level, .of_written rfl ((slewOutput_le _ _ _ _).trans (Nat.le_max_left _ _)) noted_eq.1 noted_eq.2⟩

theorem evaluate_steers (notes : Bool) (r : Fin 32) (s : State) :
    ∃ x l, (x = .auto ∨ x = .failsafe) ∧ Steers r x l s (evaluate notes r s) := by
  by_cases h : gather s (s.reg r).config.inputs = []
  · rw [evaluate_stale h]
    exact ⟨_, _, .inr rfl, evaluateStale_steers notes r s⟩
  · rw [evaluate_fresh h]
    obtain ⟨l, hl⟩ := evaluateFresh_steers notes (gather s (s.reg r).config.inputs) r s
    exact ⟨_, l, .inl rfl, hl⟩

theorem assertCeiling_steers (r : Fin 32) (s : State) : Steers r .override (s.reg r).config.ceiling s (assertCeiling r s) where
  controls := rfl
  level := Nat.le_max_left _ _
  regs := ⟨(s.reg r).offLatched, fun q => by simp [assertCeiling]⟩
  chans c := by simp [assertCeiling, writeDesired, State.setChan_read]

theorem resumeControl_steers (r : Fin 32) (s : State) :
    ∃ x l, (x = .override → s.om.phase ≠ .clear ∧ (s.reg r).config.participate = true) ∧ Steers r x l s (resumeControl r s) := by
  unfold resumeControl
  split
  · next h => exact ⟨_, _, fun _ => by simpa [overriding] using h, assertCeiling_steers r s⟩
  · obtain ⟨x, l, hx, hs⟩ := evaluate_steers true r s
    exact ⟨x, l, fun h => absurd h (by obtain rfl | rfl := hx <;> decide), hs⟩

theorem Steers.enabled {x : RegulatorState} {l : Nat} (h : Steers r x l s t) : (t.reg r).state ≠ .disabled := by
  obtain ⟨b, hb⟩ := h.regs
  rw [hb, State.setReg_self]
  exact fun e => absurd h.controls (by rw [show x = _ from e]; decide)

/-! ## Enable and disable (R88 to R90) -/

@[simp] theorem taken_timebase : (taken rest s).timebase = s.timebase := rfl

@[simp] theorem taken_point (i : Fin 256) : (taken rest s).point i = s.point i := rfl

@[simp] theorem taken_reg (r : Fin 32) : (taken rest s).reg r = s.reg r := rfl

@[simp] theorem taken_sup (r : Fin 32) : (taken rest s).sup r = s.sup r := rfl

@[simp] theorem taken_chan (c : Fin 16) : (taken rest s).chan c = s.chan c := rfl

@[simp] theorem taken_om : (taken rest s).om = s.om := rfl

theorem enableable_iff (s : State) (g : Regulator) : enableable s g = true ↔
    g.state = .disabled ∧ g.config.inputs ≠ [] ∧ 2 ≤ g.curve.length ∧ (s.chan g.config.actuator).config.node ≠ 0 := by
  simp [enableable, Regulator.configured, Channel.bound, and_assoc]

theorem feedbackStale_iff_exists (s : State) (r : Fin 32) : feedbackStale s r = true ↔
    ∃ i p, (s.reg r).config.feedback = some i ∧ s.point i = some p ∧ p.runtime.band = .stale := by
  cases h : (s.reg r).config.feedback with
  | none => simp [feedbackStale, h]
  | some i => rw [feedbackStale_iff h]; simp

theorem supervised_iff (g : Regulator) :
    g.supervised = true ↔ g.config.inputs ≠ [] ∧ g.config.feedback.isSome = true ∧ g.state ≠ .disabled := by
  simp [Regulator.supervised, Regulator.configured, and_assoc]

/-- R105: what an enable of a configured regulator does to its supervisor. -/
theorem enableSupervisor_eq (hi : (s.reg r).config.inputs ≠ []) (hd : (s.reg r).state ≠ .disabled) :
    enableSupervisor r s = if feedbackStale s r = true ∧ armed s r = true then startWindow r s else s := by
  unfold enableSupervisor armSupervisor
  by_cases hf : feedbackStale s r = true
  · obtain ⟨i, p, feedback, -⟩ := (feedbackStale_iff_exists s r).1 hf
    have supervised : (s.reg r).supervised = true := (supervised_iff _).2 ⟨hi, by rw [feedback]; rfl, hd⟩
    simp only [hf, supervised, Bool.true_and, true_and, if_true]
  · simp only [hf, if_false, ite_self, false_and, Bool.false_eq_true]

theorem controlled_enabled (r : Fin 32) (s : State) : ((controlled r s).reg r).state ≠ .disabled := by
  obtain ⟨x, l, -, h⟩ := resumeControl_steers r s
  rw [← resumeControl_eq, startPeriod_reg_state]
  exact h.enabled

theorem controlled_feedbackStale (r : Fin 32) (s : State) : feedbackStale (controlled r s) r = feedbackStale s r := by
  unfold feedbackStale
  simp only [← resumeControl_eq, startPeriod_reg_config, resumeControl_reg_config, startPeriod_point, resumeControl_point]

theorem controlled_armed (r : Fin 32) (s : State) : armed (controlled r s) r = armed s r := by
  unfold armed
  simp only [← resumeControl_eq, startPeriod_reg_config, resumeControl_reg_config, startPeriod_chan, resumeControl_chan_acked]

/-- Settles O48: the enable by its checks and by what starts the window, the disable by whether a handover is pending. -/
theorem enableAndDisable : Obligations.EnableAndDisable := by
  intro q rest r s hq hr g
  have index : regulatorIndex? (numAt q.payload 1) = some r := regulatorIndex?_some hr
  refine ⟨fun hc => ?enables, fun hc => ?disables⟩
  case enables =>
    have hx : Executable .enableRegulator q rest s := executable_of_ready hq hc rfl
    intro can u starts
    have can_iff : enableable (taken rest s) ((taken rest s).reg r) = true ↔ can := enableable_iff _ _
    have refused (h : ¬ can) : ownEnableRegulator q (taken rest s) = (taken rest s, refuse .state) := by
      simp only [ownEnableRegulator, index, if_neg (mt can_iff.1 h)]
    have done (h : can) : ownEnableRegulator q (taken rest s) = (enableSupervisor r u, .reply .ok [byteOf r.val]) := by
      simp only [ownEnableRegulator, index, if_pos (can_iff.2 h), carryOutEnable, resumeControl_eq]
      rfl
    have stale : feedbackStale u r = true ↔ ∃ i p, g.config.feedback = some i ∧ s.point i = some p ∧ p.runtime.band = .stale := by
      rw [controlled_feedbackStale, feedbackStale_iff_exists]
      simp [g]
    have arming : armed u r = true ↔ Arming (s.chan g.config.actuator).acked := by
      rw [controlled_armed, armed, arms_iff]
      simp [g]
    have configured (h : can) : (u.reg r).config.inputs ≠ [] := by
      rw [show u = _ from (resumeControl_eq r _).symm]
      simpa [g] using h.2.1
    have sup : u.sup r = s.sup r := by
      rw [show u = _ from (resumeControl_eq r _).symm]
      simp
    refine ⟨fun h => hx.next_refused (refused h) (by decide), fun h hs => hx.next_answered ?_, fun h hs => hx.next_answered ?_⟩
    all_goals rw [done h, enableSupervisor_eq (configured h) (controlled_enabled r _)]
    · obtain ⟨hf, ha, hcalm⟩ := hs
      rw [if_pos ⟨stale.2 hf, arming.2 ha⟩, startWindow_calm (sup.trans hcalm)]
      rw [show u = _ from (resumeControl_eq r _).symm]
      simp [g, State.startTimer, expiryAfter, hundredMs, byteOf]
    · split
      · next h' =>
        rw [startWindow_busy]
        · rfl
        · rw [sup]
          exact (supervisor_cases _).resolve_left fun hcalm => hs ⟨stale.1 h'.1, arming.1 h'.2, hcalm⟩
      · rfl
  case disables =>
    have hx : Executable .disableRegulator q rest s := executable_of_ready hq hc rfl
    intro off
    have done {v : State} (hv : cancelHandover r (taken rest s) = v) (hg : v.reg r = g) :
        ownDisableRegulator q (taken rest s) = (off v, .reply .ok [BitVec.ofNat 8 r.val]) := by
      simp only [ownDisableRegulator, index, carryOutDisable, hv, hg]
      rfl
    exact ⟨fun h => hx.next_answered (done (cancelHandover_other h) rfl),
      fun ref h hr => hx.next_answered (done (cancelHandover_handover h hr) (cancelled_reg _ _ _ _))⟩

/-! ## Manual control (R136 to R144) -/

theorem natBytes_num16At (p : List Byte) (k : Nat) : natBytes (num16At p k) = [byteAt p k, byteAt p (k + 1)] := by
  unfold natBytes bytes16 num16At halfAt
  rw [BitVec.ofNat_toNat, BitVec.setWidth_eq]
  exact congrArg₂ (fun a b => [a, b]) BitVec.extractLsb'_append_eq_left BitVec.extractLsb'_append_eq_right

theorem countP_dropOldestDone (l : List Entry) :
    (dropOldestDone l).countP (fun e => e.status = .pending) = l.countP (fun e => e.status = .pending) := by
  induction l with
  | nil => rfl
  | cons e l ih =>
    by_cases h : e.status = .pending
    · simp [dropOldestDone, h, ih]
    · simp [dropOldestDone, h]

theorem taken_pendingCount : (taken rest s).ru.pendingCount = s.ru.recent.countP (fun e => e.status = .pending) := by
  show (roomIn s.ru.recent).countP _ = _
  unfold roomIn
  split
  · rfl
  · exact countP_dropOldestDone _

/-- The command's outcome when the owner defers the request. -/
theorem Executable.next_deferred {code : RequestCode} {owner : Owner} (hx : Executable code q rest s)
    (ho : owner q (taken rest s) = (u, .deferred)) :
    (.next (takeRequest (hasCode code) owner s) : Host.Outcome State Fault Refusal) = .next (deferredIn q u) := by
  rw [hx.takeRequest_eq, ho]; rfl

/-- R137, R142: a manual level written to a regulator's record reaches its channel. -/
theorem writeManual_set {g : Regulator} {l : Nat} (hl : g.manualLevel = some l) :
    writeManual r (s.setReg r g) = (s.setReg r g).setChan g.config.actuator (desiring l (s.chan g.config.actuator)) := by
  unfold writeManual writeDesired
  simp only [State.setReg_self, hl, writeDesired_eq_desiring, State.setReg_chan]

theorem readComesFirst_iff (k : Channel) (s : State) : readComesFirst k s = true ↔ s.turns.head? = some .readFirst ∧ OpenedTogether k := by
  simp [readComesFirst, Channel.writtenTogether, OpenedTogether]
  tauto

/-- R137: under control, TAKE_MANUAL goes by the channel as it is read. -/
theorem takeManualAt_controlled {l : Nat} (h : (s.reg r).state = .auto ∨ (s.reg r).state = .failsafe ∨ (s.reg r).state = .override) :
    takeManualAt q r l s =
      if (!(s.chan (s.reg r).config.actuator).exchangeOpen) = true then enterManual r l s
      else if readComesFirst (s.chan (s.reg r).config.actuator) s = true then enterManual r l (s.withTurns s.turns.tail)
      else if s.ru.pendingCount < 3 then (s.setReg r ((s.reg r).take .handover l (some q.ref)), .deferred)
      else (s, refuse .busy) := by
  obtain h | h | h := h <;> simp only [takeManualAt, h] <;> rfl

/-- R137: the regulator stands in MANUAL and its level is written to the channel. -/
theorem enterManual_eq {l : Nat} : enterManual r l s =
    ((s.setReg r ((s.reg r).take .manual l none)).setChan (s.reg r).config.actuator (desiring l (s.chan (s.reg r).config.actuator)),
      .reply .ok (manualReply r l (isFaulted (s.chan (s.reg r).config.actuator)))) := by
  unfold enterManual
  dsimp only
  rw [writeManual_set rfl]
  rfl

/-- Settles O49: the two requests by the level's range and the regulator's state; a TAKE_MANUAL under control by the channel as it is read. -/
theorem manualLevels : Obligations.ManualLevels := by
  intro q rest r s hq hr g k l data manual held atOnce first
  have index : regulatorIndex? (numAt q.payload 1) = some r := regulatorIndex?_some hr
  have reply (b : Bool) : manualReply r l b = data b := by
    show _ :: natBytes (num16At _ _) ++ _ = _
    rw [natBytes_num16At]
    rfl
  have set : setManual r l (taken rest s) = manual := writeManual_set rfl
  refine ⟨fun hc => ?takes, fun hc => ?sets⟩
  case takes =>
    have hx : Executable .takeManual q rest s := executable_of_ready hq hc rfl
    have inRange (h : l ≤ 1000) : ownTakeManual q (taken rest s) = takeManualAt q r l (taken rest s) := by
      simp only [ownTakeManual, index]
      exact if_pos h
    refine ⟨fun h => hx.next_refused (u := taken rest s) ?_ (by decide), fun h => ?_⟩
    · simp only [ownTakeManual, index]
      exact if_neg (Nat.not_le.2 h)
    refine ⟨fun hg => hx.next_refused ((inRange h).trans ?_) (by decide), fun hg => hx.next_refused ((inRange h).trans ?_) (by decide),
      fun hg => hx.next_answered ((inRange h).trans ?_), fun hg => ?_⟩
    · simp only [takeManualAt, taken_reg, show (s.reg r).state = _ from hg]
    · simp only [takeManualAt, taken_reg, show (s.reg r).state = _ from hg]
    · simp only [takeManualAt, taken_reg, show (s.reg r).state = _ from hg, set, reply]
      rfl
    · have own := (inRange h).trans (takeManualAt_controlled (q := q) (s := taken rest s) (l := l) hg)
      have shut : (!((taken rest s).chan ((taken rest s).reg r).config.actuator).exchangeOpen) = true ↔ ¬ ExchangeOpen k := by
        rw [Bool.not_eq_true', ← Bool.not_eq_true, exchangeOpen_iff]
        rfl
      have reads : readComesFirst ((taken rest s).chan ((taken rest s).reg r).config.actuator) (taken rest s) = true ↔ first :=
        readComesFirst_iff _ _
      have pending : (taken rest s).ru.pendingCount = held := taken_pendingCount
      refine ⟨fun hk => hx.next_answered ?_, fun hk hf => hx.next_answered ?_, fun hk hf hn => hx.next_deferred ?_,
        fun hk hf hn => hx.next_refused (u := taken rest s) ?_ (by decide)⟩ <;> rw [own]
      · rw [if_pos (shut.2 hk), enterManual_eq, reply]
        rfl
      all_goals rw [if_neg (not_not_intro hk ∘ shut.1)]
      · rw [if_pos (reads.2 hf), enterManual_eq, reply]
        rfl
      all_goals rw [if_neg (mt reads.1 hf), pending]
      · rw [if_pos hn]
        rfl
      · rw [if_neg (Nat.not_lt.2 hn)]
  case sets =>
    have hx : Executable .setManualLevel q rest s := executable_of_ready hq hc rfl
    have inRange (h : l ≤ 1000) : ownSetManualLevel q (taken rest s) = setManualAt r l (taken rest s) := by
      simp only [ownSetManualLevel, index]
      exact if_pos h
    refine ⟨fun h => hx.next_refused (u := taken rest s) ?_ (by decide), fun h =>
      ⟨fun hg => hx.next_answered ((inRange h).trans ?_), fun hg => hx.next_answered ((inRange h).trans ?_),
        fun hm hh => hx.next_refused ((inRange h).trans ?_) (by decide)⟩⟩
    · simp only [ownSetManualLevel, index]
      exact if_neg (Nat.not_le.2 h)
    · simp only [setManualAt, taken_reg, show (s.reg r).state = _ from hg, set, reply]
    · simp only [setManualAt, taken_reg, show (s.reg r).state = _ from hg, reply]
      rw [← hg]
    · have neither : (s.reg r).state ≠ .manual ∧ (s.reg r).state ≠ .handover := ⟨hm, hh⟩
      unfold setManualAt
      rw [taken_reg]
      split
      · next h => exact absurd h neither.1
      · next h => exact absurd h neither.2
      all_goals rfl

/-- Settles O50: the release by the regulator's state. -/
theorem releaseManual : Obligations.ReleaseManual := by
  intro q rest r s hq hc hr g released
  have index : regulatorIndex? (numAt q.payload 1) = some r := regulatorIndex?_some hr
  have hx : Executable .releaseManual q rest s := executable_of_ready hq hc rfl
  have done {v : State} (hs : g.state = .manual ∨ g.state = .handover) (hv : cancelHandover r (taken rest s) = v) (hg : v.reg r = g) :
      ownReleaseManual q (taken rest s) = (released v, .reply .ok [BitVec.ofNat 8 r.val]) := by
    have own : carryOutRelease r (taken rest s) = released v := by
      simp only [carryOutRelease, resumeControl_eq, hv, hg]
      rfl
    obtain hs | hs := hs <;> simp only [ownReleaseManual, index, taken_reg, show (s.reg r).state = _ from hs, own] <;> rfl
  refine ⟨fun h => hx.next_answered (done (.inl h) (cancelHandover_other (by rw [taken_reg, show (s.reg r).state = _ from h]; decide)) rfl),
    fun ref h hr => hx.next_answered (done (.inr h) (cancelHandover_handover h hr) (cancelled_reg _ _ _ _)),
    fun hm hh => hx.next_refused (u := taken rest s) ?_ (by decide)⟩
  simp only [ownReleaseManual, index, taken_reg]
  split
  · next h => exact absurd h hm
  · next h => exact absurd h hh
  all_goals rfl

end Sys2Proof.Machine
end

section
/-! Acknowledgements, timers and requests of the channels (O51 to O53). -/

namespace Sys2Proof.Machine
open Sys2Proof.Claims

variable {s t u : State} {r : Fin 32} {c d : Fin 16} {k : Channel} {q : Request} {rest : List Request} {ref : EntryRef} {p : List Byte}

/-! ## A report (R114, R140) -/

theorem reportEntry_named (h : namerOf s c = some r) (faulted : Bool) :
    reportEntry c faulted s = if (s.reg r).state = .handover then completeHandover r faulted s else s := by
  unfold reportEntry; rw [h]

theorem namerOf_eq_none (h : ∀ r, (s.reg r).config.inputs = [] ∨ (s.reg r).config.actuator ≠ c) : namerOf s c = none := by
  refine List.find?_eq_none.2 fun r _ hr => ?_
  obtain ⟨hi, ha⟩ := (namesChannel_iff _ _).1 hr
  exact (h r).elim hi fun h => h ha

theorem completeHandover_eq (faulted : Bool) {l : Nat} (he : (s.reg r).handover = some ref) (hl : (s.reg r).manualLevel = some l) :
    completeHandover r faulted s =
      completedEntry ref
        { src := ref.src, seq := ref.seq, code := 37, status := .ok, data := manualReply r l faulted }
        ((s.setReg r { s.reg r with state := .manual, handover := none }).setChan (s.reg r).config.actuator
          (desiring l (s.chan (s.reg r).config.actuator))) := by
  unfold completeHandover
  dsimp only
  rw [writeManual_set (g := { s.reg r with state := .manual, handover := none }) hl, he]
  dsimp only
  rw [show (s.reg r).manualLevel.getD 0 = l by rw [hl]; rfl]
  exact completeEntry_ok ref .takeManual _ _

/-! ## The end of an exchange in FAULT (R123, R126, R128) -/

/-- Settles O52: the ack timeout by probing and retries, the report by the regulator that names the channel. -/
theorem channelTimersAndHandover : Obligations.ChannelTimersAndHandover := by
  refine ⟨fun c s => ?_, fun c faulted s => ⟨fun r law hi ha => ?_, fun h => ?_⟩⟩
  · intro k u
    refine ⟨fun hs hd => ?_, fun hs hd => congrArg Host.Outcome.next ?_⟩
    · have expires : ackExpiry c s = if k.probing then returnToFault c s
          else if k.retries < k.config.retryLimit then signal .setRetry (s.setChan c k.retry) else enterFault c faultTimeout s := by
        unfold ackExpiry
        dsimp only
        exact if_pos (by simpa [k] using ⟨hd, hs⟩)
      refine ⟨fun hp => congrArg Host.Outcome.next (expires.trans ?_), fun hp hr => congrArg Host.Outcome.next (expires.trans ?_),
        fun hp hr => congrArg Host.Outcome.next (expires.trans ?_)⟩
      · rw [if_pos hp]; rfl
      · rw [if_neg (ne_true_of_eq_false hp), if_pos hr]; rfl
      · rw [if_neg (ne_true_of_eq_false hp), if_neg (Nat.not_lt.2 hr)]; rfl
    · unfold probeExpiry
      dsimp only
      exact if_pos (by simpa [k] using ⟨hd, hs⟩)
  · rw [reportEntry_named (law.namerOf_eq ((namesChannel_iff _ _).2 ⟨hi, ha⟩))]
    refine ⟨fun h => if_neg h, fun ref l h he hl => ?_⟩
    rw [if_pos h, completeHandover_eq faulted he hl, ha]
    rfl
  · unfold reportEntry
    rw [namerOf_eq_none h]

/-! ## Acknowledgements (R121 to R123) -/

/-- R121: a payload outside section 11.4 carries no acknowledgement. -/
theorem acknowledgement?_none (h : p.length ≠ 4 ∨ 16 ≤ numAt p 0 ∨ 2 ≤ numAt p 1 ∨ (numAt p 1 = 0 ∧ 1000 < num16At p 2)) :
    acknowledgement? p = none := by
  unfold acknowledgement?
  by_cases hn : 15 < numAt p 0
  · rw [nodeChannel?_none hn]
  · rw [nodeChannel?_some (c := ⟨numAt p 0, by omega⟩) rfl]
    dsimp only
    by_cases hl : p.length = 4
    · rw [if_neg (not_not_intro hl)]
      by_cases h0 : numAt p 1 = 0
      · rw [if_pos h0]
        exact if_neg (show ¬ num16At p 2 ≤ 1000 by omega)
      · rw [if_neg h0, if_neg (by omega)]
    · rw [if_pos hl]

/-- R121: what an admitted payload carries. -/
theorem acknowledgement?_ok (hl : p.length = 4) (hc : d.val = numAt p 0) (h : numAt p 1 = 0) (hv : num16At p 2 ≤ 1000) :
    acknowledgement? p = some { nodeChannel := d, applied := some (num16At p 2) } := by
  unfold acknowledgement?
  rw [nodeChannel?_some hc]
  dsimp only
  rw [if_neg (not_not_intro hl), if_pos h]
  exact if_pos hv

theorem acknowledgement?_reject (hl : p.length = 4) (hc : d.val = numAt p 0) (h : numAt p 1 = 1) :
    acknowledgement? p = some { nodeChannel := d, applied := none } := by
  unfold acknowledgement?
  rw [nodeChannel?_some hc]
  dsimp only
  rw [if_neg (not_not_intro hl), if_neg (by omega), if_pos h]

theorem acknowledgement?_nodeChannel {a : Acknowledgement} (h : acknowledgement? p = some a) : a.nodeChannel.val = numAt p 0 := by
  by_cases hn : 15 < numAt p 0
  · rw [acknowledgement?_none (.inr (.inl hn))] at h
    exact absurd h (by simp)
  · unfold acknowledgement? at h
    rw [nodeChannel?_some (c := ⟨numAt p 0, by omega⟩) rfl] at h
    dsimp only at h
    split at h
    · exact absurd h (by simp)
    · split at h
      · split at h
        · rw [← Option.some.inj h]
        · exact absurd h (by simp)
      · split at h
        · rw [← Option.some.inj h]
        · exact absurd h (by simp)

/-- The record that the search for a node and output looks for. -/
theorem channelOf_spec {node : Byte} {n : Fin 16} (h : channelOf s node n = some c) :
    (s.chan c).config.node ≠ 0 ∧ (s.chan c).config.node = node ∧ (s.chan c).config.nodeChannel = n := by
  simpa [Channel.bound, and_assoc] using List.find?_some h

/-- R113: the bound channel of a pair is the one found for it. -/
theorem ChannelLaw.channelOf_eq (law : ChannelLaw s) (hb : (s.chan c).config.node ≠ 0) :
    channelOf s (s.chan c).config.node (s.chan c).config.nodeChannel = some c := by
  cases hf : channelOf s (s.chan c).config.node (s.chan c).config.nodeChannel with
  | none => exact absurd (List.find?_eq_none.1 hf c (List.mem_finRange c)) (by simpa [Channel.bound] using hb)
  | some d =>
    obtain ⟨hd, hnode, hn⟩ := channelOf_spec hf
    rw [law.bindings d c (by simpa [Channel.bound] using hd) hnode hn]

/-- R121: an acknowledgement that matches no bound channel outside IDLE with its seq is late. -/
theorem takeAck_late {src seq : Byte} (h : ∀ a c, acknowledgement? p = some a → channelOf s src a.nodeChannel = some c →
    (s.chan c).state = .idle ∨ (s.chan c).seq ≠ seq) : takeAck src seq p s = signal .acksLate s := by
  unfold takeAck
  split
  · rfl
  · next a ha =>
    split
    · rfl
    · next c hc =>
      rw [if_neg]
      simpa [Channel.matchesAck, Classical.or_iff_not_imp_left] using h a c ha hc

/-- R121: an acknowledgement that matches. -/
theorem takeAck_matched {seq : Byte} {a : Acknowledgement} (law : ChannelLaw s) (ha : acknowledgement? p = some a)
    (hc : (s.chan c).config.nodeChannel = a.nodeChannel) (hb : (s.chan c).config.node ≠ 0) (hs : (s.chan c).state ≠ .idle)
    (hq : (s.chan c).seq = seq) :
    takeAck (s.chan c).config.node seq p s = match a.applied with
      | some applied => ackOk c applied s
      | none => ackReject c s := by
  unfold takeAck
  rw [ha]
  dsimp only
  rw [← hc, law.channelOf_eq hb]
  dsimp only
  exact if_pos (by simp [Channel.matchesAck, hs, hq])

theorem checksAfter_iff {l : Nat} : k.checksAfter l = true ↔ k.inFlight = none ∨ k.inFlight = some l := by
  unfold Channel.checksAfter
  cases k.inFlight <;> simp [eq_comm]

/-- Settles O51: what the payload carries, the channel it matches, then OK and REJECT as the model takes them. -/
theorem acknowledgements : Obligations.Acknowledgements := by
  refine ⟨fun f e s h hd ht => ?frame, fun src seq p s => ⟨fun h => ?malformed, fun h => ?late, fun c law hl hn hz hc hs hq => ?matched⟩⟩
  case frame =>
    refine congrArg Host.Outcome.next ((frameEnd_arrived h.toArrived true).trans ?_)
    rw [takeValid_arrivedHere h (by rw [ht]; decide), if_pos hd, if_pos ht]
  case malformed =>
    unfold takeAck
    rw [acknowledgement?_none h]
  case late =>
    refine takeAck_late fun a c ha hc => ?_
    obtain ⟨hb, hnode, hn⟩ := channelOf_spec hc
    have output : (s.chan c).config.nodeChannel.val = numAt p 0 := by rw [hn, acknowledgement?_nodeChannel ha]
    exact Classical.or_iff_not_imp_left.2 (h c hnode hb output)
  case matched =>
    subst hn
    intro k
    refine ⟨fun l h0 hv hl' => ?ok, fun h1 => ?reject⟩
    case ok =>
      intro s1 s2 s3
      subst hv
      rw [takeAck_matched law (acknowledgement?_ok hl hc h0 hl') rfl hz hs hq]
      unfold ackOk
      simp only [checksAfter_iff, sendCheck_eq_checked]
      rfl
    case reject =>
      intro u
      rw [takeAck_matched law (acknowledgement?_reject hl hc h1) rfl hz hs hq]
      show (_ → ackReject c s = _) ∧ (_ → _ → ackReject c s = _) ∧ (_ → ackReject c s = _)
      unfold ackReject
      dsimp only
      refine ⟨fun hf => ?_, fun hf hs => ?_, fun hs => ?_⟩
      · exact if_pos (by rw [faulted_eq_isFaulted]; simpa using hf)
      · rw [if_neg (by rw [faulted_eq_isFaulted]; simpa using hf), if_neg hs]
        rfl
      · rw [if_neg (by rw [faulted_eq_isFaulted]; simp [isFaulted, show (s.chan c).state = _ from hs]), if_pos hs]
        rfl

/-! ## Requests on channels (R129, R130, R132) -/

theorem channelConfig?_none (h : 126 < numAt p 2 ∨ 15 < numAt p 3 ∨ numAt p 4 = 0 ∨ 7 < numAt p 5) : channelConfig? p = none := by
  unfold channelConfig?
  by_cases hn : 15 < numAt p 3
  · rw [nodeChannel?_none hn]
  · rw [nodeChannel?_some (c := ⟨numAt p 3, by omega⟩) rfl]
    exact if_neg (by omega)

theorem channelConfig?_some {n : ChannelConfig} (hnode : n.node = byteAt p 2) (hmax : n.node.toNat ≤ 126) (hn : n.nodeChannel.val = numAt p 3)
    (ht : n.ackTimeout = numAt p 4) (ht1 : 1 ≤ n.ackTimeout) (hr : n.retryLimit = numAt p 5) (hr7 : n.retryLimit ≤ 7) :
    channelConfig? p = some n := by
  unfold channelConfig?
  rw [nodeChannel?_some hn]
  dsimp only
  rw [if_pos ⟨by rwa [hnode] at hmax, by omega, by omega⟩, ← hnode, ← ht, ← hr]

theorem channelEngaged_iff : channelEngaged s c = true ↔
    ∃ r, (s.reg r).state ≠ .disabled ∧ (s.reg r).config.inputs ≠ [] ∧ (s.reg r).config.actuator = c := by
  simp only [channelEngaged, List.any_eq_true, List.mem_finRange, true_and, Bool.and_eq_true, bne_iff_ne, namesChannel_iff]

theorem bindingTaken_iff (n : ChannelConfig) : bindingTaken s c n = true ↔
    ∃ d, d ≠ c ∧ (s.chan d).config.node = n.node ∧ (s.chan d).config.nodeChannel = n.nodeChannel := by
  simp [bindingTaken, and_assoc]

/-- R118: no send check does anything to a channel without a desired level. -/
theorem sendCheck_of_desired_none (h : k.desired = none) : k.sendCheck = k := by
  rw [sendCheck_eq_checked]
  unfold checked
  exact if_neg fun h' => h'.2.2.1 h

theorem settleIdleChannel_undesired {after : Channel} (h : after.desired = none) : settleIdleChannel c k after s =
    (let told := ackedChanged c k.acked (s.setChan c after)
    let cleared := if k.faulted then tellFaulted c false told else told
    if k.state != .idle then reportEntry c false cleared else cleared) := by
  unfold settleIdleChannel
  extract_lets told cleared checked
  have after_eq : cleared.chan c = after := by
    simp only [cleared]
    split <;> simp [told]
  have unchecked : checked = cleared := by
    simp only [checked]
    rw [sendCheck_of_desired_none (by rw [after_eq, h]), State.setChan_eta]
  rw [unchecked]

/-- Settles O53: the write by its checks and by what becomes of the binding, the reset as it abandons. -/
theorem channelRequests : Obligations.ChannelRequests := by
  intro q rest c s hq hc k told reported
  have index : channelIndex? (numAt q.payload 1) = some c := channelIndex?_some hc
  refine ⟨fun hcar => ?writes, fun hcar => ?resets⟩
  case writes =>
    have hx : Executable .writeActuator q rest s := executable_of_ready hq hcar rfl
    refine ⟨fun h => hx.next_refused (u := taken rest s) ?_ (by decide), fun n hnode hmax hn ht ht1 hr hr7 => ?_⟩
    · simp only [ownWriteActuator, index, channelConfig?_none h]
    · intro engaged busy pair
      have own : ownWriteActuator q (taken rest s) =
          if (channelEngaged (taken rest s) c || k.exchangeOpen) = true then (taken rest s, refuse .state)
          else if (n.node != 0 && bindingTaken (taken rest s) c n) = true then (taken rest s, refuse .duplicateKey)
          else (carryOutBinding c n (taken rest s), .reply .ok [byteOf c.val]) := by
        simp only [ownWriteActuator, index, channelConfig?_some hnode hmax hn ht ht1 hr hr7]
        rfl
      have busy_iff : (channelEngaged (taken rest s) c || k.exchangeOpen) = true ↔ busy := by
        rw [Bool.or_eq_true, channelEngaged_iff, exchangeOpen_iff]
        rfl
      have pair_iff : (n.node != 0 && bindingTaken (taken rest s) c n) = true ↔ pair := by
        rw [Bool.and_eq_true, bne_iff_ne, bindingTaken_iff]
        rfl
      have done {v : State} (hb : ¬ busy) (hp : ¬ pair) (hv : carryOutBinding c n (taken rest s) = v) :
          exec .writeActuator s = .next (answered q .ok [BitVec.ofNat 8 c.val] v) :=
        hx.next_answered (by rw [own, if_neg (mt busy_iff.1 hb), if_neg (mt pair_iff.1 hp), hv]; rfl)
      refine ⟨fun hb => hx.next_refused (u := taken rest s) ?_ (by decide), fun hb hp => hx.next_refused (u := taken rest s) ?_ (by decide),
        fun hb h0 hk => done hb (fun h => h.1 h0) ?_, fun hb hp hkn hkc => done hb hp ?_, fun hb hp hch => done hb hp ?_⟩
      · rw [own, if_pos (busy_iff.2 hb)]
      · rw [own, if_neg (mt busy_iff.1 hb), if_pos (pair_iff.2 hp)]
      all_goals
        unfold carryOutBinding
        dsimp only
        rw [taken_chan]
      · exact if_pos (by simpa [Channel.staysUnbound, k] using ⟨hk, h0⟩)
      · have still : k.rebinds n = false := by simp [Channel.rebinds, hkn, hkc]
        have same : k.retimed n = { k with config := n } := by simp only [Channel.retimed, ← hkn, ← hkc]
        rw [show (s.chan c).rebinds n = false from still, show (s.chan c).retimed n = _ from same, if_neg Bool.false_ne_true, ite_self]
      · have stays : k.staysUnbound n = false := by
          simp only [Channel.staysUnbound, Bool.and_eq_false_iff, decide_eq_false_iff_not]
          obtain h | h := hch
          · by_cases hk0 : k.config.node = 0
            · exact .inr fun h0 => h (h0.trans hk0.symm)
            · exact .inl hk0
          · exact .inr h.1
        have rebinds : k.rebinds n = true := by
          simp only [Channel.rebinds, Bool.not_eq_true', Bool.and_eq_false_iff, decide_eq_false_iff_not]
          exact hch.imp (fun h e => h e.symm) (fun h e => h.2 e.symm)
        rw [if_neg (ne_true_of_eq_false stays), if_pos rebinds]
        rw [settleIdleChannel_undesired rfl]
        simp only [bne_iff_ne]
        rfl
  case resets =>
    have hx : Executable .resetActuator q rest s := executable_of_ready hq hcar rfl
    intro u
    refine hx.next_answered ?_
    simp only [ownResetActuator, index, settleIdleChannel, sendCheck_eq_checked, bne_iff_ne]
    rfl

end Sys2Proof.Machine
end

section
/-! The override: its entry regulator by regulator (O38), the changes of the critical set and its clearing (O39). -/

namespace Sys2Proof.Machine
open Sys2Proof.Claims

variable {s t u : State} {r q : Fin 32} {c : Fin 16} {p : Fin 256} {b : Band}

/-! ## The override entry notice (R80) -/

/-- R80: the regulator enters OVERRIDE at an override's entry. -/
def Moves (g : Regulator) : Prop := (g.state = .auto ∨ g.state = .failsafe) ∧ g.config.participate = true

theorem entryNotice_moves (h : Moves (s.reg r)) : entryNotice r s = driven r s := by
  unfold entryNotice
  dsimp only
  rw [if_pos (by simpa [Moves] using h), assertCeiling_eq_driven]

theorem entryNotice_rests (h : ¬ Moves (s.reg r)) : entryNotice r s = s := by
  unfold entryNotice
  exact if_neg (by simpa [Moves] using h)

/-- The notices leave the configurations and make no regulator one that moves. -/
structure Noticed (s t : State) : Prop where
  config : ∀ q, (t.reg q).config = (s.reg q).config
  moves : ∀ q, Moves (t.reg q) → Moves (s.reg q)

theorem Noticed.entryNotice (h : Noticed s t) (r : Fin 32) : Noticed s (entryNotice r t) where
  config q := by rw [entryNotice_reg_config, h.config]
  moves q hq := by
    by_cases hr : Moves (t.reg r)
    · rw [entryNotice_moves hr] at hq
      by_cases e : q = r
      · subst e
        exact h.moves q hr
      · refine h.moves q ?_
        simpa [driven, State.setReg_read, e] using hq
    · rw [entryNotice_rests hr] at hq
      exact h.moves q hq

theorem entryNotice_reg_ne (h : q ≠ r) : (entryNotice r s).reg q = s.reg q := by
  by_cases hr : Moves (s.reg r)
  · rw [entryNotice_moves hr]
    simp [driven, State.setReg_read, h]
  · rw [entryNotice_rests hr]

theorem entryNotice_chan_ne (h : Moves (s.reg r) → c ≠ (s.reg r).config.actuator) : (entryNotice r s).chan c = s.chan c := by
  by_cases hr : Moves (s.reg r)
  · rw [entryNotice_moves hr]
    simp [driven, State.setChan_read, h hr]
  · rw [entryNotice_rests hr]

/-- R68: enabled regulators name different channels. -/
theorem RegulatorLaw.actuators_differ (law : RegulatorLaw s) (hr : (s.reg r).state ≠ .disabled) (hq : (s.reg q).state ≠ .disabled)
    (h : q ≠ r) : (s.reg r).config.actuator ≠ (s.reg q).config.actuator := by
  have names {k : Fin 32} (hk : (s.reg k).state ≠ .disabled) : (s.reg k).namesChannel (s.reg k).config.actuator = true := by
    simp [Regulator.namesChannel, ((law.records k).enabled hk).1]
  intro e
  have named := names hr
  rw [e] at named
  exact h (law.channels _ _ _ (names hq) named)

theorem RegulatorLaw.actuator_ne (law : RegulatorLaw s) (hr : Moves (s.reg r)) (hq : Moves (s.reg q)) (h : q ≠ r) :
    (s.reg r).config.actuator ≠ (s.reg q).config.actuator := by
  have enabled {k : Fin 32} (hk : Moves (s.reg k)) : (s.reg k).state ≠ .disabled := by
    obtain ⟨hs | hs, -⟩ := hk <;> rw [hs] <;> decide
  exact law.actuators_differ (enabled hr) (enabled hq) h

/-- The law reads the regulators and the configurations of points and channels. -/
theorem RegulatorLaw.congr (h : RegulatorLaw s) (hr : ∀ r, t.reg r = s.reg r)
    (hp : ∀ i, (t.point i).map (·.config) = (s.point i).map (·.config)) (hc : ∀ c, (t.chan c).config = (s.chan c).config) :
    RegulatorLaw t where
  records r := hr r ▸ h.records r
  inputs r i hi := by
    rw [hr] at hi
    rw [← Option.isSome_map (f := (·.config)), hp, Option.isSome_map]
    exact h.inputs r i hi
  feedback r i hi := by
    rw [hr] at hi
    obtain ⟨p, hs, hk⟩ := h.feedback r i hi
    have config := hp i
    rw [hs, Option.map_some, Option.map_eq_some_iff] at config
    obtain ⟨p', ht, hc'⟩ := config
    exact ⟨p', ht, by rw [hc', hk]⟩
  channels r q c hrc hqc := by rw [hr] at hrc hqc; exact h.channels r q c hrc hqc
  bound r hs := by rw [hr] at hs ⊢; simpa only [Channel.bound, hc] using h.bound r hs

/-- What the notices to all regulators leave of one that moves and of its channel. -/
theorem forEachNotice_moves (law : RegulatorLaw s) (hr : Moves (s.reg r)) :
    (forEachRegulator entryNotice s).reg r = (driven r s).reg r ∧
      (forEachRegulator entryNotice s).chan (s.reg r).config.actuator = (driven r s).chan (s.reg r).config.actuator := by
  obtain ⟨u, -, before, after⟩ := forEachRegulator_at (s := s) (P := Noticed s) (fun k t h => h.entryNotice k)
    (fun t => (t.reg r, t.chan (s.reg r).config.actuator)) r (fun k t hk h => by
      refine Prod.ext (entryNotice_reg_ne hk.symm) (entryNotice_chan_ne fun hm => ?_)
      rw [h.config]
      exact law.actuator_ne hr (h.moves k hm) hk) ⟨fun _ => rfl, fun _ h => h⟩
  obtain ⟨hreg, hchan⟩ := Prod.mk.inj before
  obtain ⟨hreg', hchan'⟩ := Prod.mk.inj after
  rw [entryNotice_moves (by rw [hreg]; exact hr)] at hreg' hchan'
  refine ⟨hreg'.trans ?_, hchan'.trans ?_⟩
  · simp [driven, hreg]
  · simp [driven, hreg, hchan]

theorem forEachNotice_rests (hr : ¬ Moves (s.reg r)) : (forEachRegulator entryNotice s).reg r = s.reg r := by
  obtain ⟨u, -, before, after⟩ := forEachRegulator_at (s := s) (P := fun _ => True) (fun _ _ _ => trivial) (fun t => t.reg r) r
    (fun k t hk _ => entryNotice_reg_ne hk.symm) trivial
  rw [after, entryNotice_rests (by rw [before]; exact hr), before]

theorem forEachNotice_chan (h : ∀ r, Moves (s.reg r) → (s.reg r).config.actuator ≠ c) :
    (forEachRegulator entryNotice s).chan c = s.chan c := by
  refine (forEachRegulator_keeps entryNotice (fun t => Noticed s t ∧ t.chan c = s.chan c) (fun r t ⟨hn, hc⟩ =>
    ⟨hn.entryNotice r, (entryNotice_chan_ne fun hm => ?_).trans hc⟩) ⟨⟨fun _ => rfl, fun _ h => h⟩, rfl⟩).2
  rw [hn.config]
  exact (h r (hn.moves r hm)).symm

/-! ## Joining and leaving (R95, R98) -/

theorem reportBand_critical (h : b = .critHigh ∨ b = .critLow) : reportBand p b s = joinCritical p s := by
  unfold reportBand
  obtain rfl | rfl := h <;> rfl

theorem reportBand_other (h : b ≠ .critHigh) (h' : b ≠ .critLow) : reportBand p b s = leaveCritical p s := by
  unfold reportBand
  rw [if_neg (by simp [Band.critical, h, h'])]

theorem insertIndex_nil {n : Nat} (i : Fin n) : insertIndex i [] = [i] := by
  have once : (List.finRange n).count i = 1 := List.count_eq_one_of_mem (List.nodup_finRange n) (List.mem_finRange i)
  simp [insertIndex, List.filter_eq, once]

theorem joinCritical_member (h : p ∈ s.om.critical) : joinCritical p s = s := if_pos h

theorem joinCritical_first (h : s.om.critical = []) : joinCritical p s =
    if s.om.phase = .clear then overrideEntry p (s.withOm { s.om with critical := [p] })
    else overrideReentry (s.withOm { s.om with critical := [p] }) := by
  unfold joinCritical
  rw [if_neg (by simp [h])]
  simp only [h, List.isEmpty_nil, if_true, insertIndex_nil]
  cases s.om.phase <;> rfl

theorem joinCritical_more (hp : p ∉ s.om.critical) (h : s.om.critical ≠ []) :
    joinCritical p s = s.withOm { s.om with critical := insertIndex p s.om.critical } := by
  unfold joinCritical
  rw [if_neg hp]
  exact if_neg (by simpa using h)

theorem leaveCritical_other (h : p ∉ s.om.critical) : leaveCritical p s = s := if_neg h

theorem leaveCritical_member (h : p ∈ s.om.critical) : leaveCritical p s =
    (let left := s.withOm { s.om with critical := removeIndex p s.om.critical }
    if left.om.critical = [] then (if 0 < s.om.holdTime then holdStart left else overrideClearing left) else left) := by
  unfold leaveCritical
  rw [if_pos h]
  simp only [List.isEmpty_iff]

/-- Settles O38: the join opens the override; the notices reach each regulator that moves, each on its own channel. -/
theorem overrideOpens : Obligations.OverrideOpens := by
  intro p b s law hc hp hb told moves t
  have opened : t = forEachRegulator entryNotice told := by
    show reportBand p b s = _
    rw [reportBand_critical hb, joinCritical_first hc, if_pos hp]
    rfl
  have regs : ∀ r, told.reg r = s.reg r := fun r => by simp [told]; rfl
  have chans : ∀ c, told.chan c = s.chan c := fun c => by simp [told]; rfl
  have law' : RegulatorLaw told := law.congr regs (fun i => congrArg _ (by simp [told]; rfl)) (fun c => by rw [chans])
  refine ⟨by constructor <;> simp [t], by simp [t], by simp [t], ?_, ?_, ?_, fun r hm => ?_, fun r hm => ?_, fun c hn => ?_⟩
  · rw [opened]; exact forEachRegulator_field _ _ (fun r u => @entryNotice_om u r) _
  · rw [opened]; exact forEachRegulator_field _ _ (fun r u => @entryNotice_nu u r) _
  · rw [opened]; exact forEachRegulator_field _ _ (fun r u => @entryNotice_counters u r) _
  · have hm' : Moves (told.reg r) := by rw [regs]; exact hm
    obtain ⟨hreg, hchan⟩ := forEachNotice_moves law' hm'
    rw [opened, hreg]
    rw [regs] at hchan
    refine ⟨by simp [driven, regs], hchan.trans (by simp [driven, regs, chans])⟩
  · rw [opened, forEachNotice_rests (by rw [regs]; exact hm), regs]
  · rw [opened, forEachNotice_chan (fun r hr => by rw [regs] at hr ⊢; exact hn r hr), chans]

theorem overrideSeconds_eq (now d : Time) : (overrideSeconds now (some d) : Int) = (min 32767 ((now - d).toNat / 1000) : Int) := by
  simp [overrideSeconds]

/-- R101: the clearing, told with the whole seconds of the override. -/
theorem overrideClearing_eq {d : Time} (h : s.om.startTime = some d) : overrideClearing s =
    forEachRegulator clearingNotice (raise .overrideOff none (min 32767 ((s.timebase - d).toNat / 1000)) .info
      (phased { s.om with phase := .clear, holdTimer := none, startTime := none } s)) := by
  have told (om : OverrideMonitor) (hp : om.phase = .clear) : tellOverride false (s.withOm om) = phased om s := by
    simp [tellOverride, phased, hp, State.withOm, State.withNu]
  unfold overrideClearing
  dsimp only
  rw [h, overrideSeconds_eq, told _ rfl]

theorem removeIndex_eq_nil_iff {l : List (Fin 256)} : removeIndex p l = [] ↔ ∀ q ∈ l, q = p := by
  simp [removeIndex, List.filter_eq_nil_iff]

/-- Settles O39: the joins by what the set holds, the leaves by what it then holds, the clearing by one lemma. -/
theorem overrideChangesAndEnds : Obligations.OverrideChangesAndEnds := by
  refine ⟨fun p b s hb => ?joins, fun s d hd => ?leaves, fun r s => ⟨fun h => if_pos h, fun h => if_neg h⟩⟩
  case joins =>
    rw [reportBand_critical hb]
    refine ⟨joinCritical_member, joinCritical_more, fun hc hp => ?_⟩
    rw [joinCritical_first hc, if_neg (by rw [hp]; decide)]
    rfl
  case leaves =>
    intro cleared
    refine ⟨fun p b hh hl => ?_, fun hp ht => congrArg Host.Outcome.next ?_⟩
    · rw [reportBand_other hh hl]
      have last {l : List (Fin 256)} (h : l = [p]) : removeIndex p l = [] := by
        rw [removeIndex_eq_nil_iff, h]
        exact fun q hq => List.mem_singleton.1 hq
      refine ⟨leaveCritical_other, fun hp ⟨q, hq, hne⟩ => ?_, fun hc ht => ?_, fun hc ht => ?_⟩
      · rw [leaveCritical_member hp]
        exact if_neg fun h => hne (removeIndex_eq_nil_iff.1 h q hq)
      all_goals
        rw [leaveCritical_member (by rw [hc]; exact List.mem_singleton_self p)]
        dsimp only
        rw [last hc]
      · refine (if_pos rfl).trans ((if_pos ht).trans ?_)
        rfl
      · refine (if_pos rfl).trans ((if_neg (by omega)).trans ?_)
        exact overrideClearing_eq (s := s.withOm { s.om with critical := [] }) hd
    · unfold holdExpiry
      rw [if_pos (by simp [ht, hp]), overrideClearing_eq hd]

end Sys2Proof.Machine
end

section
/-! The Point Table: the write of a configuration (O42) and an accepted reading (O36). -/

namespace Sys2Proof.Machine
open Sys2Proof.Claims

variable {s t u : State} {i : Fin 256} {p : Point} {c : PointConfig} {q : Request} {rest : List Request}

/-! ## WRITE_POINT (R34 to R37) -/

theorem keyTaken_iff {k : Key} : keyTaken s i k = true ↔ ∃ j p, j ≠ i ∧ s.point j = some p ∧ p.config.key = k := by
  simp only [keyTaken, List.any_eq_true, List.mem_finRange, true_and, Bool.and_eq_true, decide_eq_true_eq, point_any_key_iff]
  exact ⟨fun ⟨j, hj, p, hp⟩ => ⟨j, p, hj, hp⟩, fun ⟨j, p, hj, hp⟩ => ⟨j, hj, p, hp⟩⟩

theorem feedbackNamed_iff : feedbackNamed s i = true ↔ ∃ r, (s.reg r).config.inputs ≠ [] ∧ (s.reg r).config.feedback = some i := by
  simp [feedbackNamed, Regulator.feedsBack, Regulator.configured]

theorem staleTimerFrom_eq (now : Time) (age : Option Nat) : staleTimerFrom now age = staleFrom now age := by cases age <;> rfl

/-- R30: the staleness timer after a write with the same key. -/
theorem timerAfterWrite_eq (p : Point) (c : PointConfig) (now : Time) : timerAfterWrite p c now =
    if c.maxAge = p.config.maxAge ∨ (c.maxAge ≠ none ∧ p.runtime.band = .stale) then p.staleTimer else staleFrom now c.maxAge := by
  unfold timerAfterWrite
  rw [staleTimerFrom_eq]
  by_cases he : c.maxAge = p.config.maxAge
  · rw [if_pos he, if_pos (.inl he)]
  · rw [if_neg he]
    cases hc : c.maxAge with
    | none =>
      rw [if_pos (by rfl), if_neg]
      · rfl
      · rw [← hc]
        exact fun h => h.elim he fun h => h.1 rfl
    | some age =>
      by_cases hb : p.runtime.band = .stale
      · simp [hb]
      · rw [if_neg (by simp), if_neg hb, if_neg]
        rw [← hc]
        exact fun h => h.elim he fun h => hb h.2

/-- Settles O42: the three stages of R34, then what the record held before decides. -/
theorem writePoint : Obligations.WritePoint := by
  intro q rest i s hq hc hi
  have hx : Executable .writePoint q rest s := executable_of_ready hq hc rfl
  have index : pointOf (byteAt q.payload 1) = i := pointOf_byteAt hi
  refine ⟨fun h => hx.next_refused (u := taken rest s) ?_ (by decide), fun c h => ?_⟩
  · simp only [ownWritePoint, h]
  intro held fed ok
  have held_iff : keyTaken (taken rest s) i c.key = true ↔ held := keyTaken_iff
  have fed_iff : feedbackNamed (taken rest s) i = true ↔ fed := feedbackNamed_iff
  have own : ownWritePoint q (taken rest s) =
      if keyTaken (taken rest s) i c.key = true then (taken rest s, refuse .duplicateKey)
      else if (feedbackNamed (taken rest s) i && c.kind != .speed) = true then (taken rest s, refuse .inUse)
      else (carryOutWrite i c (taken rest s), .reply .ok [byteAt q.payload 1]) := by
    simp only [ownWritePoint, h, index]
  refine ⟨fun hh => hx.next_refused (u := taken rest s) ?_ (by decide), fun hh hf hk => hx.next_refused (u := taken rest s) ?_ (by decide),
    fun hh hf => ?_⟩
  · rw [own, if_pos (held_iff.2 hh)]
  · rw [own, if_neg (mt held_iff.1 hh), if_pos (by simp [fed_iff.2 hf, hk])]
  · have usable : ¬ (feedbackNamed (taken rest s) i && c.kind != .speed) = true := by
      rw [Bool.and_eq_true, fed_iff, bne_iff_ne]
      exact fun ⟨h, hk⟩ => hk (hf h)
    have done {v : State} (hv : carryOutWrite i c (taken rest s) = v) : ok v :=
      hx.next_answered (by rw [own, if_neg (mt held_iff.1 hh), if_neg usable, hv])
    refine ⟨fun hp => done ?_, fun p hp hk => done ?_, fun p hp hk => done ?_⟩ <;> unfold carryOutWrite <;>
      rw [taken_point, hp] <;> dsimp only
    · rw [Point.occupied, staleTimerFrom_eq]
      rfl
    · rw [if_neg hk, Point.rekeyed, Point.occupied, staleTimerFrom_eq]
      rfl
    · rw [if_pos hk, Point.rewritten, timerAfterWrite_eq]
      rfl

/-! ## An accepted reading (R26 to R29, R50, R51, R53, R54, R58 to R60) -/

theorem convert_eq (c : PointConfig) (raw : Int) : c.convert raw = max (-32768) (min 32767 ((raw * c.gain).tdiv 256 + c.offset)) := by
  simp only [PointConfig.convert, saturateValue, truncDiv]
  omega

theorem least_eq (m : Option Int) (c : Int) : least m c = match m with | none => c | some v => min v c := by
  cases m with
  | none => rfl
  | some v => simp only [least]; omega

theorem greatest_eq (m : Option Int) (c : Int) : greatest m c = match m with | none => c | some v => max v c := by
  cases m with
  | none => rfl
  | some v => simp only [greatest]; omega

theorem rawBand_defined (t : Thresholds) (v : Int) : t.rawBand v ≠ .unknown ∧ t.rawBand v ≠ .stale := by
  have := rawBand_cases t v
  constructor <;> intro h <;> simp [h] at this

/-- R47, R48: a reading leaves a raw band, or holds a band of a side. -/
theorem nextBand_cases (t : Thresholds) (hyst : Nat) (held : Band) (v : Int) :
    (∃ w, nextBand t hyst held v = t.rawBand w) ∨ (nextBand t hyst held v = held ∧ held ≠ .unknown ∧ held ≠ .stale) := by
  unfold nextBand
  cases held with
  | unknown | stale | normal => exact .inl ⟨v, rfl⟩
  | warnHigh | critHigh =>
    dsimp only
    split
    · exact .inl ⟨v, rfl⟩
    · split
      · exact .inr ⟨rfl, by decide, by decide⟩
      · exact .inl ⟨_, rfl⟩
  | warnLow | critLow =>
    dsimp only
    split
    · exact .inl ⟨v, rfl⟩
    · split
      · exact .inr ⟨rfl, by decide, by decide⟩
      · exact .inl ⟨_, rfl⟩

/-- R47, R48: a reading never leaves UNKNOWN or STALE. -/
theorem nextBand_defined (t : Thresholds) (hyst : Nat) (held : Band) (v : Int) :
    nextBand t hyst held v ≠ .unknown ∧ nextBand t hyst held v ≠ .stale := by
  obtain ⟨w, h⟩ | ⟨h, hu, hs⟩ := nextBand_cases t hyst held v
  · rw [h]; exact rawBand_defined t w
  · rw [h]; exact ⟨hu, hs⟩

theorem severity_eq {b : Band} (h : b ≠ .unknown ∧ b ≠ .stale) :
    b.severity = if b = .critHigh ∨ b = .critLow then .crit else if b = .normal then .info else .warn := by
  cases b with
  | unknown => exact absurd rfl h.1
  | stale => exact absurd rfl h.2
  | normal | warnHigh | critHigh | warnLow | critLow => rfl

theorem raisesBandNote_iff {old new : Band} : raisesBandNote c old new = true ↔
    c.bandNotes = true ∧ new ≠ old ∧ ¬ (old = .unknown ∧ new = .normal) := by
  simp only [raisesBandNote, Bool.and_eq_true, bne_iff_ne, Bool.not_eq_true', Bool.and_eq_false_iff, decide_eq_false_iff_not, and_assoc,
    not_and_or]
  rw [ne_comm]

theorem reportsBand_iff {old new : Band} : reportsBand c old new = true ↔
    c.escalate = true ∧ new ≠ old ∧ (new = .critHigh ∨ new = .critLow ∨ old = .critHigh ∨ old = .critLow ∨ old = .stale) := by
  simp only [reportsBand, Band.critical, Bool.and_eq_true, Bool.or_eq_true, bne_iff_ne, decide_eq_true_eq, and_assoc, or_assoc]
  rw [ne_comm]

/-- R54: only a watch that is not yet tripped notes. -/
theorem watchNotes_eq (w : Option Watch) (f : Int) : watchNotes w f = w.any fun w => w.note && !w.tripped && w.beyond f := by
  unfold watchNotes
  congr 1
  funext w
  unfold Watch.evaluate
  cases w.tripped <;> simp

/-- Settles O36: the record step by step, then what each step hands on. -/
theorem acceptedReading : Obligations.AcceptedReading := by
  intro src r i p s law hp hk hr g c old f new runtime timer kept beyond watch trips s1 s2 s3 s4 s5 s6
  have converted : p.config.convert r.raw = c := convert_eq _ _
  have filtered : smooth p.config.shift p.runtime c = f := rfl
  have measured : p.measured r.raw (signal .readingsMatched s).timebase = { p with runtime := runtime, staleTimer := timer } := by
    have timed : (if p.config.maxAge.isSome then staleTimerFrom s.timebase p.config.maxAge else p.staleTimer) = timer := by
      simp only [timer, g]
      cases p.config.maxAge <;> rfl
    simp only [Point.measured, converted, filtered, PointRuntime.accept, least_eq, greatest_eq, signal_timebase, timed] <;> rfl
  have stay : stays p.config p.runtime (p.runtime.band != new) c = kept := by
    have changed : (p.runtime.band != new) = decide (new ≠ old) := by rw [bne_comm, Bool.eq_iff_iff]; simp [old]
    exact (congrArg (stays p.config p.runtime · c) changed).trans rfl
  have beyond_eq (w : Watch) : w.beyond f = beyond w := by
    obtain ⟨threshold, direction, -⟩ := w
    cases direction <;> rfl
  have decided : ({ p with runtime := runtime, staleTimer := timer } : Point).decided f c kept =
      { p with
        runtime := if g.forward = .onChange then
            (if kept then { runtime with lastForwarded := some c, sinceForward := 0 }
             else { runtime with sinceForward := p.runtime.sinceForward + 1 })
          else runtime
        staleTimer := timer
        watch := watch } := by
    have watched : p.watch.map (fun w => w.evaluate f) = watch := by simp only [Watch.evaluate, beyond_eq, watch]
    have forwarded : runtime.forwarded g.forward kept c = if g.forward = .onChange then
        (if kept then { runtime with lastForwarded := some c, sinceForward := 0 }
          else { runtime with sinceForward := p.runtime.sinceForward + 1 }) else runtime := by
      unfold PointRuntime.forwarded
      cases g.forward <;> rfl
    simp only [Point.decided, watched]
    rw [show runtime.forwarded p.config.forward kept c = _ from forwarded]
  have trip : watchNotes p.watch f = trips := by rw [watchNotes_eq]; simp only [beyond_eq, trips]
  have matched : takeReading src r s = acceptReading i p r.raw (signal .readingsMatched s) := by
    unfold takeReading
    rw [law.findKey_eq hp hk]
    simp only [show r.failed = false from hr, hp]
    rfl
  rw [matched]
  unfold acceptReading
  dsimp only
  rw [converted, filtered, measured]
  dsimp only
  rw [show runtime.band = new from rfl, stay, decided, trip]
  have noted : handBandOn i p.config p.runtime.band new f ((signal .readingsMatched s).setPoint i
      (some { p with runtime := runtime, staleTimer := timer })) = s4 := by
    have severity : new.severity = _ := severity_eq (nextBand_defined g.thresholds g.hyst old f)
    have band : (if raisesBandNote p.config p.runtime.band new then raise .band (some i.val) new.code new.severity s1 else s1) = s2 :=
      if_congr raisesBandNote_iff (by rw [severity]) rfl
    have report : (if reportsBand p.config p.runtime.band new then reportBand i new s2 else s2) = s3 :=
      if_congr reportsBand_iff rfl rfl
    unfold handBandOn
    dsimp only
    rw [band, report]
  rw [noted]

end Sys2Proof.Machine
end

section
/-! READ_STATUS as it stands in the statement (O44): the reply in a state that no run reaches. -/

namespace Sys2Proof.Machine
open Sys2Proof.Claims

/-! ## A READ_STATUS whose Override Monitor group holds nine members -/

/-- R159 lists the first eight members of the critical set; this request in execution claims to have read nine. -/
def nineMembersRead : Execution where
  request := { src := 1, seq := 0, payload := [2] }
  read :=
    { taken := 0
      override := some { phase := .active, holdTime := 0, count := 9, members := [0, 1, 2, 3, 4, 5, 6, 7, 8] }
      sweep := some none
      requests := some { manager := none, pending := 0, waiting := 0 }
      chain := some { link := .up, hopBudget := 1 }
      frozen := some false
      notes := some { depth := 0, inFlight := 0, alert := false } }

/-- The state after reset, with that request in execution. -/
def nineMembersState : State := { State.reset with ru := { State.reset.ru with execution := some nineMembersRead } }

/-- How many bytes of data the reply in the slot has after the command. -/
def slotDataLength : Host.Outcome State Fault Refusal → Option Nat
  | .next t => t.ru.slot.map fun r => r.data.length
  | _ => none

/-- The model sends every member it holds: nine, and so one byte more than the statement's eight. -/
theorem nineMembers_answered : slotDataLength (exec .readStatus nineMembersState) = some 29 := by decide

theorem nineMembers_stated :
    slotDataLength (.next (statusRead nineMembersRead.request (readNow allGroups nineMembersState nineMembersRead.read) nineMembersState)) =
      some 28 := by decide

/-- Refutes O44: its clause on a READ_STATUS in execution is stated of every state, and in one whose Override Monitor group was read with nine
members (which no run reaches) the reply carries nine bytes of members where section 11.7 has eight. -/
theorem not_readingRequests : ¬ Obligations.ReadingRequests := by
  intro h
  obtain ⟨-, inExecution, -⟩ := h
  have answered := (inExecution nineMembersRead nineMembersState rfl).1 (fun gs h => by cases h)
  have lengths := nineMembers_answered.symm.trans ((congrArg slotDataLength answered).trans nineMembers_stated)
  exact absurd lengths (by decide)

end Sys2Proof.Machine
end

section
/-! RESTART and CLEAR_ALL (O58): what RESTART makes of one regulator and its channel, and what of the other blocks. -/

namespace Sys2Proof.Machine
open Sys2Proof.Claims

variable {s t u : State} {r q : Fin 32} {c : Fin 16} {g : Regulator}

/-! ## One regulator at RESTART (R92) -/

/-- R92: the regulator's record after RESTART, when no point is fresh. -/
def Regulator.restarted (g : Regulator) (now : Time) : Regulator :=
  match g.state with
  | .disabled | .manual | .handover => g.restart
  | .auto | .failsafe | .override =>
    { g.restart with
      state := .failsafe, output := some g.config.failsafe, periodTimer := some (expiryAfter now (hundredMs g.config.period)) }

/-- R92: the level that the regulator writes to its channel at RESTART. -/
def Regulator.restartLevel (g : Regulator) : Option Nat :=
  match g.state with
  | .disabled => none
  | .manual | .handover => g.manualLevel
  | .auto | .failsafe | .override => some g.config.failsafe

/-- No point is fresh, as after R43. -/
def NoneFresh (s : State) : Prop := ∀ i p, s.point i = some p → p.runtime.band = .unknown

theorem NoneFresh.gather_eq (h : NoneFresh s) (l : List (Fin 256)) : gather s l = [] := by
  refine List.filterMap_eq_nil_iff.2 fun i _ => ?_
  cases hp : s.point i with
  | none => rfl
  | some p => simp [freshValue, Point.fresh, h i p hp]

theorem State.setChan_setReg (s : State) (c : Fin 16) (k : Channel) (r : Fin 32) (g : Regulator) :
    (s.setChan c k).setReg r g = (s.setReg r g).setChan c k := rfl

/-- R92: what a regulator's RESTART does. -/
theorem restartRegulator_eq (h : NoneFresh s) : restartRegulator r s =
    match (s.reg r).restartLevel with
    | none => s.setReg r ((s.reg r).restarted s.timebase)
    | some l => (s.setReg r ((s.reg r).restarted s.timebase)).setChan (s.reg r).config.actuator
        (desiring l (s.chan (s.reg r).config.actuator)) := by
  have evaluated (g : Regulator) : evaluate false r (s.setReg r g) = writeDesired g.config.actuator g.config.failsafe
      (s.setReg r { g with state := .failsafe, output := some g.config.failsafe }) := by
    have stale : gather (s.setReg r g) ((s.setReg r g).reg r).config.inputs = [] :=
      NoneFresh.gather_eq (fun i p hp => h i p (by simpa using hp)) _
    rw [evaluate_stale stale]
    simp [evaluateStale]
  unfold restartRegulator Regulator.restartLevel
  dsimp only
  cases hs : (s.reg r).state with
  | disabled => simp [Regulator.restarted, hs]
  | manual | handover =>
    dsimp only
    cases hl : (s.reg r).manualLevel with
    | none => simp [writeManual, Regulator.restart, Regulator.restarted, hs, hl]
    | some l =>
      rw [writeManual_set (l := l) (by simp [Regulator.restart, hs, hl])]
      simp [Regulator.restart, Regulator.restarted, hs]
  | auto | failsafe | override =>
    dsimp only
    rw [evaluated]
    simp only [Regulator.restart, Regulator.restarted, hs, startPeriod, writeDesired, writeDesired_eq_desiring]
    rw [State.setChan_setReg, State.setReg_setReg]
    simp [State.startTimer]

theorem restarted_config (g : Regulator) (now : Time) : (g.restarted now).config = g.config := by
  unfold Regulator.restarted Regulator.restart
  cases g.state <;> rfl

theorem restarted_disabled_iff (g : Regulator) (now : Time) : (g.restarted now).state = .disabled ↔ g.state = .disabled := by
  unfold Regulator.restarted Regulator.restart
  cases g.state <;> simp

theorem restartRegulator_reg_self (h : NoneFresh s) : (restartRegulator r s).reg r = (s.reg r).restarted s.timebase := by
  rw [restartRegulator_eq h]
  split <;> simp

theorem restartRegulator_reg_ne (h : NoneFresh s) (hq : q ≠ r) : (restartRegulator r s).reg q = s.reg q := by
  rw [restartRegulator_eq h]
  split <;> simp [State.setReg_read, hq]

theorem restartRegulator_chan_self (h : NoneFresh s) {l : Nat} (hl : (s.reg r).restartLevel = some l) :
    (restartRegulator r s).chan (s.reg r).config.actuator = desiring l (s.chan (s.reg r).config.actuator) := by
  rw [restartRegulator_eq h, hl]
  simp

theorem restartRegulator_chan_ne (h : NoneFresh s) (hc : (s.reg r).state ≠ .disabled → c ≠ (s.reg r).config.actuator) :
    (restartRegulator r s).chan c = s.chan c := by
  rw [restartRegulator_eq h]
  split
  · simp
  · next l hl =>
    have enabled : (s.reg r).state ≠ .disabled := fun hd => by simp [Regulator.restartLevel, hd] at hl
    simp [State.setChan_read, hc enabled]

/-! ## All regulators (R92) -/

/-- The regulators' RESTART, after the blocks have taken their values: it keeps every block but regulators and channels, and the
configurations, and enables no regulator. -/
structure Restarting (b t : State) : Prop where
  blocks : t = { b with regs := t.regs, chans := t.chans }
  config : ∀ q, (t.reg q).config = (b.reg q).config
  enabled : ∀ q, (t.reg q).state ≠ .disabled → (b.reg q).state ≠ .disabled

theorem Restarting.refl (b : State) : Restarting b b := ⟨rfl, fun _ => rfl, fun _ h => h⟩

theorem Restarting.noneFresh {b : State} (h : Restarting b t) (hb : NoneFresh b) : NoneFresh t := by
  intro i p hp
  rw [h.blocks] at hp
  exact hb i p hp

theorem Restarting.restartRegulator {b : State} (h : Restarting b t) (hb : NoneFresh b) (r : Fin 32) :
    Restarting b (restartRegulator r t) := by
  have fresh := h.noneFresh hb
  have reg (q : Fin 32) : (Machine.restartRegulator r t).reg q = if q = r then (t.reg r).restarted t.timebase else t.reg q := by
    split
    · next e => rw [e, restartRegulator_reg_self fresh]
    · next e => exact restartRegulator_reg_ne fresh e
  refine ⟨?_, fun q => ?_, fun q hq => ?_⟩
  · rw [restartRegulator_eq fresh, h.blocks]
    split <;> rfl
  · rw [reg]
    split
    · next e => rw [restarted_config, e, h.config]
    · exact h.config q
  · rw [reg] at hq
    split at hq
    · next e => exact e ▸ h.enabled r fun hd => hq ((restarted_disabled_iff _ _).2 hd)
    · exact h.enabled q hq

theorem forEachRestart (b : State) (hb : NoneFresh b) : Restarting b (forEachRegulator restartRegulator b) :=
  forEachRegulator_keeps _ _ (fun r _ h => h.restartRegulator hb r) (Restarting.refl b)

theorem forEachRestart_reg {b : State} (hb : NoneFresh b) (r : Fin 32) :
    (forEachRegulator restartRegulator b).reg r = (b.reg r).restarted b.timebase := by
  obtain ⟨u, hu, before, after⟩ := forEachRegulator_at (P := Restarting b) (fun k t h => h.restartRegulator hb k) (fun t => t.reg r) r
    (fun k t hk h => restartRegulator_reg_ne (h.noneFresh hb) hk.symm) (.refl b)
  rw [after, restartRegulator_reg_self (hu.noneFresh hb), before, hu.blocks]

/-- R68: the channel of an enabled regulator takes only that regulator's level. -/
theorem forEachRestart_chan {b : State} (law : RegulatorLaw s) (hs : b.regs = s.regs) (hb : NoneFresh b)
    (hr : (b.reg r).state ≠ .disabled) {l : Nat} (hl : (b.reg r).restartLevel = some l) :
    (forEachRegulator restartRegulator b).chan (b.reg r).config.actuator = desiring l (b.chan (b.reg r).config.actuator) := by
  obtain ⟨u, hu, before, after⟩ := forEachRegulator_at (P := Restarting b) (fun k t h => h.restartRegulator hb k)
    (fun t => (t.reg r, t.chan (b.reg r).config.actuator)) r (fun k t hk h => by
      refine Prod.ext (restartRegulator_reg_ne (h.noneFresh hb) hk.symm) (restartRegulator_chan_ne (h.noneFresh hb) fun he => ?_)
      have same (k : Fin 32) : b.reg k = s.reg k := by unfold State.reg; rw [hs]
      have enabled := h.enabled k he
      rw [same] at hr enabled
      rw [h.config, same, same]
      exact law.actuators_differ hr enabled hk) (.refl b)
  obtain ⟨hreg, hchan⟩ := Prod.mk.inj before
  have same := (Prod.mk.inj after).2
  rw [same, ← hu.config, restartRegulator_chan_self (hu.noneFresh hb) (by rw [hreg]; exact hl), hu.config, hchan]

theorem forEachRestart_chan_idle {b : State} (hb : NoneFresh b) (hc : ∀ r, (b.reg r).config.actuator = c → (b.reg r).state = .disabled) :
    (forEachRegulator restartRegulator b).chan c = b.chan c := by
  refine (forEachRegulator_keeps restartRegulator (fun t => Restarting b t ∧ t.chan c = b.chan c) (fun r t ⟨ht, h⟩ =>
    ⟨ht.restartRegulator hb r, (restartRegulator_chan_ne (ht.noneFresh hb) fun he e => ?_).trans h⟩) ⟨.refl b, rfl⟩).2
  exact ht.enabled r he (hc r (by rw [← ht.config, e]))

/-- The runtime fields that R92 clears are absent where the state has them absent (section 4.2). -/
theorem Regulator.Lawful.absent (h : g.Lawful) :
    (g.state ≠ .manual → g.state ≠ .handover → g.manualLevel = none) ∧ (g.state ≠ .handover → g.handover = none) ∧
      (g.state.controlling = false → g.periodTimer = none) := by
  refine ⟨fun hm hh => ?_, fun hh => ?_, fun hc => ?_⟩
  · exact Option.not_isSome_iff_eq_none.1 fun hs => (h.manual.1 hs).elim hm hh
  · exact Option.not_isSome_iff_eq_none.1 fun hs => hh (h.handover.1 hs)
  · exact Option.not_isSome_iff_eq_none.1 fun hs => by rw [h.timer.1 hs] at hc; exact absurd hc (by decide)

theorem Regulator.Lawful.restarted_disabled (h : g.Lawful) (hs : g.state = .disabled) {now : Time} :
    g.restarted now = { g with offLatched := false } := by
  obtain ⟨manual, handover, timer⟩ := h.absent
  simp [Regulator.restarted, Regulator.restart, hs, manual, handover, timer, RegulatorState.controlling]

theorem Regulator.Lawful.restarted_manual (h : g.Lawful) (hs : g.state = .manual ∨ g.state = .handover) {now : Time} :
    g.restarted now = { g with state := .manual, offLatched := false, handover := none } := by
  obtain ⟨-, -, timer⟩ := h.absent
  obtain hs | hs := hs <;> simp [Regulator.restarted, Regulator.restart, hs, timer, RegulatorState.controlling]

theorem Regulator.Lawful.restarted_controlling (h : g.Lawful) (hs : g.state = .auto ∨ g.state = .failsafe ∨ g.state = .override) {now : Time} :
    g.restarted now = { g with
      state := .failsafe, output := some g.config.failsafe, offLatched := false
      periodTimer := some (expiryAfter now (hundredMs g.config.period)) } := by
  obtain ⟨manual, handover, -⟩ := h.absent
  obtain hs | hs | hs := hs <;> simp [Regulator.restarted, Regulator.restart, hs, manual, handover]

/-! ## The other blocks, and the two requests (R42, R43, R160) -/

theorem restartBlocks_noneFresh (s : State) : NoneFresh (restartBlocks s) := by
  intro i p hp
  simp only [restartBlocks, State.point, Vector.getElem_map, Fin.getElem_fin, Option.map_eq_some_iff] at hp
  obtain ⟨p', -, rfl⟩ := hp
  rfl

theorem restartBlocks_chan (s : State) (c : Fin 16) : (restartBlocks s).chan c = (s.chan c).restart := by
  simp [restartBlocks, State.chan]

theorem restartBlocks_point (s : State) (i : Fin 256) : (restartBlocks s).point i = (s.point i).map (fun p => p.restart s.timebase) := by
  simp [restartBlocks, State.point]

theorem point_restart_eq (p : Point) (now : Time) : p.restart now =
    { config := p.config, runtime := freshRuntime, staleTimer := staleFrom now p.config.maxAge, watch := p.watch.map invalidated } := by
  unfold Point.restart
  rw [staleTimerFrom_eq]
  rfl

/-- Settles O58: the blocks take their values, then each regulator acts on what they hold; CLEAR_ALL writes every block at once. -/
theorem restartAndClearAll : Obligations.RestartAndClearAll := by
  intro q rest s hq emptied calm restarted
  refine ⟨fun hc law => ?restarts, fun hc => ?clears⟩
  case restarts =>
    have hx : Executable .restart q rest s := executable_of_ready hq hc rfl
    obtain ⟨b, hb⟩ : ∃ b, b = restartBlocks (taken rest s) := ⟨_, rfl⟩
    obtain ⟨u, hu⟩ : ∃ u, u = forEachRegulator restartRegulator b := ⟨_, rfl⟩
    have fresh : NoneFresh b := hb ▸ restartBlocks_noneFresh _
    have blocks : u = { b with regs := u.regs, chans := u.chans } := hu ▸ (forEachRestart b fresh).blocks
    have unit : b.ru = emptied := by simp [hb, restartBlocks, taken, RequestUnit.clearOut, hq.slot, hq.ready, hq.idle, emptied]
    have sups (r : Fin 32) : b.sup r = { stalled := false, window := none } := by simp [hb, restartBlocks, State.sup, Supervisor.reset]
    have points (i : Fin 256) : u.point i = (s.point i).map (fun p =>
        { config := p.config, runtime := freshRuntime, staleTimer := staleFrom s.timebase p.config.maxAge
          watch := p.watch.map invalidated }) := by
      refine (congrArg (State.point · i) blocks).trans ((congrArg (State.point · i) hb).trans ?_)
      refine (restartBlocks_point (taken rest s) i).trans ?_
      simp only [point_restart_eq]
      rfl
    have chans (c : Fin 16) : b.chan c = restarted (s.chan c) := (congrArg (State.chan · c) hb).trans (restartBlocks_chan _ c)
    have regs (r : Fin 32) : u.reg r = (s.reg r).restarted s.timebase := by
      rw [hu, forEachRestart_reg fresh, hb]
      rfl
    have written {r : Fin 32} {l : Nat} (hs : (s.reg r).state ≠ .disabled) (hl : (s.reg r).restartLevel = some l) :
        u.chan (s.reg r).config.actuator = desiring l (restarted (s.chan (s.reg r).config.actuator)) := by
      have same : b.reg r = s.reg r := by rw [hb]; rfl
      rw [hu, ← chans, ← same]
      exact forEachRestart_chan law (by rw [hb]; rfl) fresh (same ▸ hs) (same ▸ hl)
    have value {α : Type} (f : State → α) {x : α} (hk : f { b with regs := u.regs, chans := u.chans } = f b)
        (hx : f (restartBlocks (taken rest s)) = x) : f u = x :=
      (congrArg f blocks).trans (hk.trans ((congrArg f hb).trans hx))
    have idle (c : Fin 16) (hc : ∀ r, (s.reg r).config.actuator = c → (s.reg r).state = .disabled) : u.chan c = restarted (s.chan c) := by
      rw [hu, ← chans]
      exact forEachRestart_chan_idle fresh (by rw [hb]; exact hc)
    refine ⟨u, hx.next_answered (by rw [hu, hb]; rfl), value State.timebase rfl rfl, value State.ci rfl rfl, value State.pending rfl rfl,
      value State.turns rfl rfl, value State.counters rfl rfl, value State.sweep rfl rfl, value State.ru rfl (hb ▸ unit),
      value State.om rfl rfl, fun r => value (State.sup · r) rfl (hb ▸ sups r), points, value State.nu rfl rfl, fun r => ?_, idle⟩
    intro g k
    have lawful := law.records r
    refine ⟨fun hs => ?_, fun hs => ⟨?_, fun l hl => ?_⟩, fun hs => ⟨?_, ?_⟩⟩
    · rw [regs, lawful.restarted_disabled hs]
    · rw [regs, lawful.restarted_manual hs]
    · exact written (by rw [show (s.reg r).state = g.state from rfl]; obtain hs | hs := hs <;> rw [hs] <;> decide)
        (by obtain hs | hs := hs <;> simp only [Regulator.restartLevel, show (s.reg r).state = _ from hs] <;> exact hl)
    · rw [regs, lawful.restarted_controlling hs]
      rfl
    · exact written (by rw [show (s.reg r).state = g.state from rfl]; obtain hs | hs | hs := hs <;> rw [hs] <;> decide)
        (by obtain hs | hs | hs := hs <;> simp only [Regulator.restartLevel, show (s.reg r).state = _ from hs] <;> rfl)
  case clears =>
    have hx : Executable .clearAll q rest s := executable_of_ready hq hc rfl
    have cleared : clearBlocks (taken rest s) = { State.cold s.ci.straps with
        timebase := s.timebase, ci := s.ci, ru := emptied, om := calm, pending := s.pending, turns := s.turns } := by
      have unit : (taken rest s).ru.clearOut = emptied := by simp [taken, RequestUnit.clearOut, hq.slot, hq.ready, hq.idle, emptied]
      unfold clearBlocks
      rw [unit]
      rfl
    exact hx.next_answered (by rw [← cleared]; rfl)

end Sys2Proof.Machine
end

section
/-! The sweep (O59): its acceptance, and its visits one after another. -/

namespace Sys2Proof.Machine
open Sys2Proof.Claims

variable {s t u : State} {d : Sweep} {i : Fin 256} {p : Point} {k n : Nat}

/-! ## A point leaves the critical set (R95, R96) -/

theorem overrideClearing_critical (s : State) : (overrideClearing s).om.critical = s.om.critical := by
  unfold overrideClearing
  rw [forEachRegulator_field _ (fun t => t.om.critical) (fun r t => by simp)]
  simp [tellOverride]

theorem mem_leaveCritical (q p : Fin 256) (s : State) : q ∈ (leaveCritical p s).om.critical ↔ q ∈ s.om.critical ∧ q ≠ p := by
  by_cases h : p ∈ s.om.critical
  · rw [leaveCritical_member h]
    dsimp only
    (repeat' split) <;> simp [overrideClearing_critical, holdStart, tellOverride]
  · rw [leaveCritical_other h]
    exact ⟨fun hq => ⟨hq, fun e => h (e ▸ hq)⟩, And.left⟩

/-! ## Visits (R180 to R183) -/

/-- The records from `next` on that lie before `stop`. -/
def Reached (d : Sweep) (stop : Nat) (i : Fin 256) : Prop := d.next ≤ i.val ∧ i.val < stop

/-- R181: how many of the records in a range are occupied. -/
def occupiedIn (d : Sweep) (stop : Nat) (s : State) : Nat :=
  (List.finRange 256).countP fun i => (decide (d.next ≤ i.val) && decide (i.val < stop)) && (s.point i).isSome

/-- What the visits of the sweep `d` of `s` to the indices before `stop` leave. -/
structure Visited (d : Sweep) (stop : Nat) (s t : State) : Prop where
  sweep : t.sweep = some { d with next := stop, visited := d.visited + occupiedIn d stop s }
  reached : ∀ i, Reached d stop i → t.point i = (s.point i).map fun p => p.visited d s.timebase
  others : ∀ i, ¬ Reached d stop i → t.point i = s.point i
  around : t.timebase = s.timebase ∧ t.ci = s.ci ∧ t.sups = s.sups ∧ t.ru = s.ru ∧ t.pending = s.pending ∧ t.turns = s.turns
  plain : d.rebase = false → t = { s with points := t.points, sweep := t.sweep }
  critical : d.rebase = true → (∀ i ∈ s.om.critical, (s.point i).isSome = true) →
    ∀ i, i ∈ t.om.critical ↔ i ∈ s.om.critical ∧ ¬ Reached d stop i

theorem occupiedIn_next (d : Sweep) (s : State) : occupiedIn d d.next s = 0 := by
  refine List.countP_eq_zero.2 fun i _ h => ?_
  simp only [Bool.and_eq_true, decide_eq_true_eq] at h
  omega

theorem Visited.refl (h : s.sweep = some d) : Visited d d.next s s where
  sweep := by rw [h, occupiedIn_next]; rfl
  reached i hi := absurd hi (by unfold Reached; omega)
  others _ _ := rfl
  around := ⟨rfl, rfl, rfl, rfl, rfl, rfl⟩
  plain _ := rfl
  critical _ _ i := ⟨fun h => ⟨h, by unfold Reached; omega⟩, And.left⟩

theorem countP_or_eq {α : Type} [DecidableEq α] (f : α → Bool) (a : α) (b : Bool) (ha : f a = false) (l : List α) :
    l.countP (fun x => f x || (decide (x = a) && b)) = l.countP f + (if b then l.count a else 0) := by
  induction l with
  | nil => simp
  | cons x l ih =>
    by_cases hx : x = a
    · subst hx
      cases b <;> simp [ha] at ih ⊢; omega
    · simp [List.countP_cons, hx, ih]
      omega

/-- R181: one more record is reached. -/
theorem occupiedIn_succ (hn : d.next ≤ i.val) : occupiedIn d (i.val + 1) s = occupiedIn d i.val s + (if (s.point i).isSome then 1 else 0) := by
  have once : (List.finRange 256).count i = 1 := List.count_eq_one_of_mem (List.nodup_finRange 256) (List.mem_finRange i)
  have split := countP_or_eq (fun j : Fin 256 => (decide (d.next ≤ j.val) && decide (j.val < i.val)) && (s.point j).isSome) i (s.point i).isSome
    (by simp) (List.finRange 256)
  rw [once] at split
  rw [occupiedIn, occupiedIn, ← split]
  refine List.countP_congr fun j _ => ?_
  simp only [Bool.and_eq_true, Bool.or_eq_true, decide_eq_true_eq]
  constructor
  · rintro ⟨⟨hlow, hhigh⟩, ho⟩
    by_cases e : j = i
    · exact .inr ⟨e, e ▸ ho⟩
    · exact .inl ⟨⟨hlow, by have := Fin.val_ne_of_ne e; omega⟩, ho⟩
  · rintro (⟨⟨hlow, hhigh⟩, ho⟩ | ⟨rfl, ho⟩)
    · exact ⟨⟨hlow, by omega⟩, ho⟩
    · exact ⟨⟨hn, by omega⟩, ho⟩

theorem visitRecord_point (d : Sweep) (i : Fin 256) (s : State) (j : Fin 256) :
    (visitRecord d i s).point j = if j = i then (s.point i).map (fun p => p.visited d s.timebase) else s.point j := by
  unfold visitRecord
  cases hp : s.point i with
  | none =>
    by_cases e : j = i
    · rw [if_pos e, e, hp]; rfl
    · rw [if_neg e]
  | some p => dsimp only; split <;> simp [State.setPoint_read]

theorem visitRecord_around (d : Sweep) (i : Fin 256) (s : State) :
    (visitRecord d i s).timebase = s.timebase ∧ (visitRecord d i s).ci = s.ci ∧ (visitRecord d i s).sups = s.sups ∧
      (visitRecord d i s).ru = s.ru ∧ (visitRecord d i s).pending = s.pending ∧ (visitRecord d i s).turns = s.turns := by
  unfold visitRecord
  (repeat' split) <;> simp

theorem visitRecord_plain (h : d.rebase = false) (i : Fin 256) (s : State) :
    visitRecord d i s = { s with points := (visitRecord d i s).points } := by
  unfold visitRecord
  cases s.point i with
  | none => rfl
  | some p => simp only [h, if_false, Bool.false_eq_true]; rfl

/-- R183, R95: a rebased record leaves the critical set; an empty one is no member. -/
theorem visitRecord_critical (h : d.rebase = true) (hi : i ∈ s.om.critical → (s.point i).isSome = true) (j : Fin 256) :
    j ∈ (visitRecord d i s).om.critical ↔ j ∈ s.om.critical ∧ j ≠ i := by
  unfold visitRecord
  cases hp : s.point i with
  | none => exact ⟨fun hj => ⟨hj, fun e => by rw [hp] at hi; exact absurd (hi (e ▸ hj)) (by simp)⟩, And.left⟩
  | some p =>
    simp only [h, if_true]
    rw [mem_leaveCritical]
    rfl

/-- One visit, to the record at `next`. -/
theorem visit_at (h : t.sweep = some d) (hi : d.next = i.val) (hl : d.next ≤ d.last) : visit t =
    (visitRecord d i t).withSweep (some { d with next := d.next + 1, visited := d.visited + (if (t.point i).isSome then 1 else 0) }) := by
  have index : pointIndex? d.next = some i := by simp [pointIndex?, hi]
  unfold visit
  rw [h]
  dsimp only
  rw [index]
  exact if_pos hl

theorem visit_past (h : t.sweep = some d) (hl : d.last < d.next) : visit t = t := by
  unfold visit
  rw [h]
  dsimp only
  split
  · rfl
  · exact if_neg (Nat.not_le.2 hl)

theorem reached_succ_iff {j : Fin 256} (hn : d.next ≤ i.val) : Reached d (i.val + 1) j ↔ Reached d i.val j ∨ j = i := by
  unfold Reached
  rw [Fin.ext_iff]
  omega

theorem Visited.visit (h : Visited d i.val s t) (hn : d.next ≤ i.val) (hl : i.val ≤ d.last) : Visited d (i.val + 1) s (visit t) := by
  obtain ⟨time, ci, sups, ru, pending, turns⟩ := h.around
  have here : t.point i = s.point i := h.others i (by unfold Reached; omega)
  rw [visit_at h.sweep rfl hl]
  obtain ⟨time', ci', sups', ru', pending', turns'⟩ := visitRecord_around
    { d with next := i.val, visited := d.visited + occupiedIn d i.val s } i t
  refine ⟨?_, fun j hj => ?_, fun j hj => ?_,
    ⟨time'.trans time, ci'.trans ci, sups'.trans sups, ru'.trans ru, pending'.trans pending, turns'.trans turns⟩, fun hr => ?_,
    fun hr ho j => ?_⟩
  · show some _ = some _
    rw [here, occupiedIn_succ hn, Nat.add_assoc]
  · refine (visitRecord_point _ i t j).trans ?_
    obtain hj | hj := (reached_succ_iff hn).1 hj
    · rw [if_neg (by rintro rfl; unfold Reached at hj; omega)]
      exact h.reached j hj
    · rw [if_pos hj, here, time, hj]
      rfl
  · obtain ⟨hj, hne⟩ := not_or.1 (mt (reached_succ_iff hn).2 hj)
    refine (visitRecord_point _ i t j).trans ?_
    rw [if_neg hne]
    exact h.others j hj
  · have plain := visitRecord_plain (d := { d with next := i.val, visited := d.visited + occupiedIn d i.val s }) hr i t
    rw [plain, h.plain hr]
    rfl
  · have member := h.critical hr ho
    have occupied (hi : i ∈ t.om.critical) : (t.point i).isSome = true := by
      rw [here]
      exact ho i ((member i).1 hi).1
    refine (visitRecord_critical (d := { d with next := i.val, visited := d.visited + occupiedIn d i.val s }) hr occupied j).trans ?_
    rw [member, reached_succ_iff hn, not_or, and_assoc]

/-- The visits of one expiry. -/
theorem visits_repeat (law : SweepLaw s) (h : s.sweep = some d) (k : Nat) :
    Visited d (min (d.next + k) (d.last + 1)) s (Nat.repeat visit k s) := by
  obtain ⟨-, hnext, hlast, -⟩ := law d h
  induction k with
  | zero =>
    rw [show min (d.next + 0) (d.last + 1) = d.next by omega]
    exact .refl h
  | succ k ih =>
    show Visited d _ s (Machine.visit (Nat.repeat Machine.visit k s))
    by_cases hk : d.next + k ≤ d.last
    · rw [show min (d.next + k) (d.last + 1) = d.next + k by omega] at ih
      rw [show min (d.next + (k + 1)) (d.last + 1) = d.next + k + 1 by omega]
      exact Visited.visit (i := ⟨d.next + k, by omega⟩) ih (Nat.le_add_right _ _) hk
    · rw [show min (d.next + k) (d.last + 1) = d.last + 1 by omega] at ih
      rw [show min (d.next + (k + 1)) (d.last + 1) = d.last + 1 by omega, visit_past ih.sweep (Nat.lt_succ_self _)]
      exact ih

/-! ## The statement -/

theorem sweepInRange_iff {first last actions : Nat} : sweepInRange first last actions = true ↔
    first ≤ last ∧ last ≤ 255 ∧ 1 ≤ actions ∧ actions ≤ 3 := by
  simp only [sweepInRange, Bool.and_eq_true, decide_eq_true_eq, and_assoc]
  omega

/-- R179: the two action bits of a valid action set. -/
theorem actions_bits {b : Byte} (h : b.toNat ≤ 3) (h1 : 1 ≤ b.toNat) :
    b.getLsbD 0 = decide (b.toNat ≠ 2) ∧ b.getLsbD 1 = decide (b.toNat ≠ 1) := by
  obtain ⟨n, hn⟩ : ∃ n, b.toNat = n := ⟨_, rfl⟩
  have hb : b = BitVec.ofNat 8 n := by rw [← hn]; simp
  rw [hn] at h h1
  subst hb
  interval_cases n <;> decide

theorem sweepStart_eq {q : Request} (h : numAt q.payload 5 ≤ 3) (h1 : 1 ≤ numAt q.payload 5) (now : Time) : sweepStart q now =
    { first := num16At q.payload 1, last := num16At q.payload 3, stats := decide (numAt q.payload 5 ≠ 2)
      rebase := decide (numAt q.payload 5 ≠ 1), next := num16At q.payload 1, visited := 0
      entry := { src := q.src, seq := q.seq }, stepTimer := some (now + 1) } := by
  obtain ⟨stats, rebase⟩ := actions_bits h h1
  unfold sweepStart
  rw [stats, rebase]
  rfl

theorem points_eq_ofFn (s : State) : s.points = Vector.ofFn fun i => s.point i := by
  ext i hi
  simp [State.point]

/-- R182, R183: a visited record in the words of the statement. -/
theorem visited_eq (p : Point) (d : Sweep) (now : Time) : p.visited d now =
    (let cleared := if d.stats then { p with runtime := { p.runtime with count := 0, min := none, max := none } } else p
    if d.rebase then
      { cleared with
        runtime := { freshRuntime with
          count := cleared.runtime.count, min := cleared.runtime.min, max := cleared.runtime.max }
        watch := p.watch.map invalidated, staleTimer := staleFrom now p.config.maxAge }
    else cleared) := by
  unfold Point.visited Point.rebase
  cases d.stats <;> cases d.rebase <;> simp only [staleTimerFrom_eq] <;> rfl

/-- A state that differs in its points, its sweep and its Request Unit alone. -/
theorem eq_of_points_sweep_ru {points : Vector (Option Point) 256} {w : Option Sweep} {x : RequestUnit}
    (h : t = { s with points := points, sweep := w, ru := x }) : t = { s with points := points, sweep := t.sweep, ru := t.ru } := by
  subst h; rfl

/-- R180, R185: after the visits the step timer is started again, or the entry is answered. -/
theorem sweepAfterVisits_eq {stop : Nat} (h : Visited d stop s t) : sweepAfterVisits t =
    if stop ≤ d.last then t.withSweep (some { d with
        next := stop, visited := d.visited + occupiedIn d stop s, stepTimer := some (s.timebase + 1) })
    else completedEntry d.entry
      { src := d.entry.src, seq := d.entry.seq, code := 65, status := .ok, data := natBytes (d.visited + occupiedIn d stop s) }
      (t.withSweep none) := by
  have restarted : t.startTimer Config.sweepStepMs = some (s.timebase + 1) := by rw [← h.around.1]; rfl
  unfold sweepAfterVisits
  rw [h.sweep]
  dsimp only
  rw [completeEntry_ok, restarted]
  rfl

/-- Settles O59: the acceptance by its stages, the step by what its visits leave and whether an index is left. -/
theorem sweeping : Obligations.Sweeping := by
  refine ⟨fun q rest s hq hc => ?accepts, fun d s hd ht law => ?steps⟩
  case accepts =>
    intro first last actions held valid begun
    have hx : Executable .sweep q rest s := executable_of_ready hq hc rfl
    have valid_iff : sweepInRange first last actions = true ↔ valid := sweepInRange_iff
    have busy_iff : ((taken rest s).sweep.isSome || decide (Config.pendingMax ≤ (taken rest s).ru.pendingCount)) = true ↔
        s.sweep ≠ none ∨ 3 ≤ held := by
      rw [taken_pendingCount, Bool.or_eq_true, Option.isSome_iff_ne_none, decide_eq_true_eq]
      rfl
    have inRange (h : valid) : ¬ (!sweepInRange first last actions) = true := by simp [valid_iff.2 h]
    refine ⟨fun h => hx.next_refused (u := taken rest s) ?_ (by decide), fun h hb => hx.next_refused (u := taken rest s) ?_ (by decide),
      fun h hs hp => hx.next_deferred ?_⟩ <;> unfold ownSweep
    · exact if_pos (by simpa using mt valid_iff.1 h)
    · exact (if_neg (inRange h)).trans (if_pos (busy_iff.2 hb))
    · refine (if_neg (inRange h)).trans ((if_neg (mt busy_iff.1 (by simp [hs, hp]))).trans ?_)
      rw [sweepStart_eq h.2.2.2 h.2.2.1]
      rfl
  case steps =>
    intro stop reached seen act points reply
    obtain ⟨v, hv⟩ : ∃ v, v = Nat.repeat visit 16 s := ⟨_, rfl⟩
    have visited : Visited d stop s v := hv ▸ visits_repeat law hd 16
    obtain ⟨time, ci, sups, ru, pending, turns⟩ := visited.around
    have stepped : sweepStep s = sweepAfterVisits v := by
      unfold sweepStep
      rw [hd]
      exact (if_pos ht).trans (congrArg sweepAfterVisits hv.symm)
    have reached_iff (i : Fin 256) : reached i = true ↔ Reached d stop i := by simp [reached, Reached]
    have points_eq : v.points = points := by
      rw [points_eq_ofFn]
      refine congrArg Vector.ofFn (funext fun i => ?_)
      split
      · next h =>
        rw [visited.reached i ((reached_iff i).1 h)]
        exact congrArg (fun f => (s.point i).map f) (funext fun p => visited_eq p d _)
      · next h => exact visited.others i (mt (reached_iff i).2 h)
    have critical (hr : d.rebase = true) (ho : OverrideLaw s) (i : Fin 256) :
        i ∈ v.om.critical ↔ i ∈ s.om.critical ∧ reached i = false := by
      rw [← Bool.not_eq_true, reached_iff]
      refine visited.critical hr (fun j hj => ?_) i
      obtain ⟨p, hp, -⟩ := ho.members j hj
      rw [hp]
      rfl
    have plain (h : d.rebase = false) : v = { s with points := points, sweep := v.sweep } := by
      rw [← points_eq]
      exact visited.plain h
    clear_value points
    have after := sweepAfterVisits_eq visited
    refine ⟨_, rfl, ?_⟩
    rw [stepped]
    by_cases hs : stop ≤ d.last
    · rw [if_pos hs] at after
      rw [after]
      exact ⟨points_eq, fun _ => ⟨rfl, ru⟩, fun h => absurd hs (Nat.not_le.2 h), fun h =>
        eq_of_points_sweep_ru (congrArg (State.withSweep · _) (plain h)), time, ci, sups, pending, turns, critical⟩
    · rw [if_neg hs] at after
      rw [after]
      exact ⟨points_eq, fun h => absurd h hs, fun _ => ⟨rfl, by unfold completedEntry; dsimp only; rw [State.withSweep_ru, ru]; rfl⟩,
        fun h => eq_of_points_sweep_ru (congrArg (fun x : State => completedEntry _ _ (x.withSweep none)) (plain h)), time, ci, sups, pending, turns, critical⟩

end Sys2Proof.Machine
end

section
/-! The layouts of chapter 11 read back (O60): bytes of numbers, flags and codes, then the configurations, the curve and the counters. -/

namespace Sys2Proof.Machine
open Sys2Proof.Claims

variable {p : List Byte} {b : Byte} {k n : Nat} {v : Int}

/-! ## Fields of several bytes (section 2.3 of the conventions) -/

theorem natBytes_eq_field16 (n : Nat) : natBytes n = field16 n := by
  have high : (BitVec.ofNat 16 n).extractLsb' 8 8 = BitVec.ofNat 8 (n / 256) := by
    apply BitVec.eq_of_toNat_eq
    simp [Nat.shiftRight_eq_div_pow]
    omega
  have low : (BitVec.ofNat 16 n).extractLsb' 0 8 = BitVec.ofNat 8 n := by
    apply BitVec.eq_of_toNat_eq
    simp
  unfold natBytes bytes16 field16
  rw [high, low]

theorem valueBytes_eq_fieldValue (v : Int) : valueBytes v = fieldValue v := by
  have high : (BitVec.ofInt 16 v).extractLsb' 8 8 = BitVec.ofInt 8 (v / 256) := by
    apply BitVec.eq_of_toNat_eq
    simp [Nat.shiftRight_eq_div_pow]
    omega
  have low : (BitVec.ofInt 16 v).extractLsb' 0 8 = BitVec.ofInt 8 v := by
    apply BitVec.eq_of_toNat_eq
    simp
    omega
  unfold valueBytes bytes16 fieldValue
  rw [high, low]

theorem bytes32_eq_field32 (x : BitVec 32) : bytes32 x = field32 x := by
  have at_ (i : Nat) : x.extractLsb' i 8 = BitVec.ofNat 8 (x.toNat / 2 ^ i) := by
    apply BitVec.eq_of_toNat_eq
    simp [Nat.shiftRight_eq_div_pow]
  unfold bytes32 field32
  rw [at_, at_, at_, at_]
  simp

theorem toInt_ofInt_value (hlow : -32768 ≤ v) (hhigh : v ≤ 32767) : (BitVec.ofInt 16 v).toInt = v := by
  rw [BitVec.toInt_ofInt]
  simp [Int.bmod]
  omega

/-- A value that fits reads back from its two bytes. -/
theorem valueAt_of_halfAt (h : halfAt p k = BitVec.ofInt 16 v) (hlow : -32768 ≤ v) (hhigh : v ≤ 32767) : valueAt p k = v := by
  unfold valueAt
  rw [h, toInt_ofInt_value hlow hhigh]

theorem num16At_of_halfAt (h : halfAt p k = BitVec.ofNat 16 n) (hn : n ≤ 65535) : num16At p k = n := by
  unfold num16At
  rw [h]
  simp
  omega

theorem words_append (x : BitVec 32) :
    ((x.extractLsb' 24 8 ++ x.extractLsb' 16 8 : BitVec 16) ++ (x.extractLsb' 8 8 ++ x.extractLsb' 0 8 : BitVec 16) : BitVec 32) = x := by
  rw [BitVec.extractLsb'_append_extractLsb'_eq_extractLsb' (show 24 = 16 + 8 from rfl),
    BitVec.extractLsb'_append_extractLsb'_eq_extractLsb' (show 8 = 0 + 8 from rfl)]
  exact (BitVec.extractLsb'_append_extractLsb'_eq_extractLsb' (show 16 = 0 + 16 from rfl)).trans (by simp)

/-! ## Bits (section 11.3) -/

/-- The number of a list of bits, bit 0 first. -/
def bitsValue (l : List Bool) : Nat := l.foldr (fun b n => 2 * n + (if b then 1 else 0)) 0

theorem bitsByte_eq (l : List Bool) : bitsByte l = byteOf (bitsValue l) := rfl

theorem bitsValue_cons (b : Bool) (l : List Bool) : bitsValue (b :: l) = 2 * bitsValue l + (if b then 1 else 0) := rfl

theorem bitsValue_lt (l : List Bool) : bitsValue l < 2 ^ l.length := by
  induction l with
  | nil => decide
  | cons b l ih =>
    rw [bitsValue_cons, List.length_cons, Nat.pow_succ]
    split <;> omega

theorem bitsValue_testBit (l : List Bool) (k : Nat) : (bitsValue l).testBit k = l.getD k false := by
  induction l generalizing k with
  | nil => simp [bitsValue]
  | cons b l ih =>
    rw [bitsValue_cons]
    cases k with
    | zero => cases b <;> simp [Nat.testBit_zero]
    | succ k =>
      rw [List.getD_cons_succ, ← ih, Nat.testBit_succ]
      congr 1
      split <;> omega

theorem bitsByte_getLsbD {l : List Bool} (hk : k < 8) : (bitsByte l).getLsbD k = l.getD k false := by
  rw [bitsByte_eq, ← bitsValue_testBit]
  simp only [byteOf, BitVec.getLsbD_ofNat, hk, decide_true, Bool.true_and]

theorem bitsByte_lt (l : List Bool) : (bitsByte l).toNat < 2 ^ l.length := by
  rw [bitsByte_eq]
  exact Nat.lt_of_le_of_lt (by simp [byteOf]; exact Nat.mod_le _ _) (bitsValue_lt l)

/-- A number of bits as the statements write it. -/
theorem bitOf_eq (k : Nat) (b : Bool) : bitOf k b = 2 ^ k * (if b then 1 else 0) := by cases b <;> simp [bitOf]

/-! ## Codes (section 11.2): each read as a byte of at most so much -/

theorem pointKind?_code (x : PointKind) : pointKind? x.code = some x := by cases x <;> rfl
theorem forwardPolicy?_code (x : ForwardPolicy) : forwardPolicy? x.code = some x := by cases x <;> rfl
theorem combine?_code (x : Combine) : combine? x.code = some x := by cases x <;> rfl
theorem flag?_flagByte (x : Bool) : flag? (flagByte x) = some x := by cases x <;> rfl
theorem selector?_code (x : Option EventClass) : selector? (byteOf (selectorCode x)) = some x := by
  cases x with
  | none => rfl
  | some c => cases c <;> rfl

theorem pointKind?_defined_iff (b : Byte) : pointKind? b ≠ none ↔ b.toNat ≤ 3 := by
  unfold pointKind?
  split_ifs <;> simp only [ne_eq, reduceCtorEq, not_false_eq_true, not_true, true_iff, false_iff] <;> bv_omega

theorem forwardPolicy?_defined_iff (b : Byte) : forwardPolicy? b ≠ none ↔ b.toNat ≤ 2 := by
  unfold forwardPolicy?
  split_ifs <;> simp only [ne_eq, reduceCtorEq, not_false_eq_true, not_true, true_iff, false_iff] <;> bv_omega

theorem combine?_defined_iff (b : Byte) : combine? b ≠ none ↔ b.toNat ≤ 1 := by
  unfold combine?
  split_ifs <;> simp only [ne_eq, reduceCtorEq, not_false_eq_true, not_true, true_iff, false_iff] <;> bv_omega

theorem flag?_defined_iff (b : Byte) : flag? b ≠ none ↔ b.toNat ≤ 1 := by
  unfold flag?
  split_ifs <;> simp only [ne_eq, reduceCtorEq, not_false_eq_true, not_true, true_iff, false_iff] <;> bv_omega

theorem nodeChannel?_defined_iff (n : Nat) : nodeChannel? n ≠ none ↔ n ≤ 15 := by
  obtain h | h := Nat.lt_or_ge 15 n
  · rw [nodeChannel?_none h]
    simp; omega
  · rw [nodeChannel?_some (c := ⟨n, by omega⟩) rfl]
    simp [h]

theorem channelIndex?_defined_iff (n : Nat) : channelIndex? n ≠ none ↔ n ≤ 15 := by
  obtain h | h := Nat.lt_or_ge 15 n
  · rw [channelIndex?_none h]
    simp; omega
  · rw [channelIndex?_some (c := ⟨n, by omega⟩) rfl]
    simp [h]

/-- Section 11.2: the classes have the codes 1 to 15. -/
theorem EventClass.exists_code_iff (n : Nat) : (∃ c ∈ EventClass.all, c.code = n) ↔ 1 ≤ n ∧ n ≤ 15 := by
  constructor
  · rintro ⟨c, -, rfl⟩
    cases c <;> decide
  · rintro ⟨hlow, hhigh⟩
    interval_cases n <;> decide

theorem selector?_defined_iff (b : Byte) : selector? b ≠ none ↔ b.toNat ≤ 15 := by
  unfold selector?
  split
  · next h => simp [h]
  · next h =>
    have positive : 1 ≤ b.toNat := by bv_omega
    rw [ne_eq, Option.map_eq_none_iff, ← ne_eq, ← Option.isSome_iff_ne_none, List.find?_isSome]
    simp only [decide_eq_true_eq, EventClass.exists_code_iff]
    omega

/-! ## The layouts are the bytes that the model writes (section 11.6) -/

theorem presence_eq (c : PointConfig) : c.presence = field8 (bitOf 0 c.thresholds.lowCrit.isSome + bitOf 1 c.thresholds.lowWarn.isSome
    + bitOf 2 c.thresholds.highWarn.isSome + bitOf 3 c.thresholds.highCrit.isSome + bitOf 4 c.maxAge.isSome) := by
  refine congrArg byteOf ?_
  simp only [bitOf_eq, List.foldr_cons, List.foldr_nil]
  omega

theorem pointBytes_eq_layout (c : PointConfig) : c.bytes = pointLayout c := by
  unfold PointConfig.bytes pointLayout optValueBytes optNatBytes
  simp only [presence_eq, natBytes_eq_field16, valueBytes_eq_fieldValue]
  rfl

theorem regulatorBytes_eq_layout (c : RegulatorConfig) : c.bytes ++ c.inputs.map (fun i => byteOf i.val) = regulatorLayout c := by
  unfold RegulatorConfig.bytes regulatorLayout
  simp only [natBytes_eq_field16, valueBytes_eq_fieldValue]
  cases c.feedback <;> rfl

theorem breakpointBytes_eq_layout (b : Breakpoint) : b.bytes = fieldValue b.input ++ field16 b.level := by
  unfold Breakpoint.bytes
  rw [natBytes_eq_field16, valueBytes_eq_fieldValue]

theorem counterBytes_eq_layout (k : Counter) : k.bytes = counterLayout k := by
  have flags : k.flags = field8 (bitOf 0 k.noteOnOverflow + bitOf 1 k.freezeOnOverflow) := by
    refine congrArg byteOf ?_
    simp only [bitOf_eq, List.foldr_cons, List.foldr_nil]
    omega
  unfold Counter.bytes counterLayout
  rw [flags, bytes32_eq_field32]
  cases k.selector <;> rfl

/-! ## Point configurations read back (R34, R193) -/

/-- A field whose presence bit is set exactly when it is present reads back. -/
theorem presentAt_eq {α : Type} {presence : Byte} {bit : Nat} {o : Option α} {d w : α} (hb : presence.getLsbD bit = o.isSome)
    (hw : w = o.getD d) : presentAt presence bit w = o := by
  unfold presentAt
  rw [hb]
  cases o with
  | none => rfl
  | some x => exact congrArg some hw

theorem halfAt_of_bytes {x : Half} (high : byteAt p k = x.extractLsb' 8 8) (low : byteAt p (k + 1) = x.extractLsb' 0 8) : halfAt p k = x := by
  unfold halfAt
  rw [high, low, halves_append]

theorem numAt_of_byteOf (h : byteAt p k = byteOf n) (hn : n ≤ 255) : numAt p k = n := by
  unfold numAt
  rw [h, byteOf_toNat hn]

theorem valueInRange_getD {o : Option Int} (h : valueInRange o) : -32768 ≤ o.getD 0 ∧ o.getD 0 ≤ 32767 := by
  cases o with
  | none => decide
  | some x => exact h x rfl

theorem pointConfig?_bytes {c : PointConfig} (i : Byte) (h : c.InRange) (hlc : valueInRange c.thresholds.lowCrit)
    (hlw : valueInRange c.thresholds.lowWarn) (hhw : valueInRange c.thresholds.highWarn) (hhc : valueInRange c.thresholds.highCrit) :
    pointConfig? ([16, i] ++ c.bytes) = some c := by
  obtain ⟨l, hl⟩ : ∃ l, l = [16, i] ++ c.bytes := ⟨_, rfl⟩
  simp only [PointConfig.bytes, valueBytes, optValueBytes, optNatBytes, natBytes, bytes16, List.cons_append, List.nil_append] at hl
  have bit (k : Nat) (hk : k < 8) : c.presence.getLsbD k = [c.thresholds.lowCrit.isSome, c.thresholds.lowWarn.isSome,
      c.thresholds.highWarn.isSome, c.thresholds.highCrit.isSome, c.maxAge.isSome].getD k false := bitsByte_getLsbD hk
  have few : c.presence.toNat < 32 := bitsByte_lt _
  have maxAge : c.maxAge.getD 0 ≤ 65535 := by
    cases ha : c.maxAge with
    | none => decide
    | some n =>
      have := h.maxAge
      simp only [ha, maxAgeValid, Bool.and_eq_true, decide_eq_true_eq] at this
      simp only [Option.getD_some]
      omega
  have node : byteAt l 2 = c.key.node := by simp [hl, byteAt]
  have channel : nodeChannel? (numAt l 3) = some c.key.channel :=
    nodeChannel?_some (numAt_of_byteOf (by simp [hl, byteAt]) (by omega)).symm
  have kind : pointKind? (byteAt l 4) = some c.kind := (congrArg pointKind? (by simp [hl, byteAt])).trans (pointKind?_code _)
  have gain : valueAt l 5 = c.gain := valueAt_of_halfAt (halfAt_of_bytes (x := .ofInt 16 c.gain) (by simp [hl, byteAt]) (by simp [hl, byteAt])) h.gain.1 h.gain.2
  have offset : valueAt l 7 = c.offset := valueAt_of_halfAt (halfAt_of_bytes (x := .ofInt 16 c.offset) (by simp [hl, byteAt]) (by simp [hl, byteAt])) h.offset.1 h.offset.2
  have shift : numAt l 9 = c.shift.val := numAt_of_byteOf (by simp [hl, byteAt]) (by omega)
  have presence : byteAt l 10 = c.presence := by simp [hl, byteAt]
  have lowCrit : presentAt c.presence 0 (valueAt l 11) = c.thresholds.lowCrit :=
    presentAt_eq (bit 0 (by decide)) (valueAt_of_halfAt (halfAt_of_bytes (x := .ofInt 16 (c.thresholds.lowCrit.getD 0)) (by simp [hl, byteAt]) (by simp [hl, byteAt])) (valueInRange_getD hlc).1 (valueInRange_getD hlc).2)
  have lowWarn : presentAt c.presence 1 (valueAt l 13) = c.thresholds.lowWarn :=
    presentAt_eq (bit 1 (by decide)) (valueAt_of_halfAt (halfAt_of_bytes (x := .ofInt 16 (c.thresholds.lowWarn.getD 0)) (by simp [hl, byteAt]) (by simp [hl, byteAt])) (valueInRange_getD hlw).1 (valueInRange_getD hlw).2)
  have highWarn : presentAt c.presence 2 (valueAt l 15) = c.thresholds.highWarn :=
    presentAt_eq (bit 2 (by decide)) (valueAt_of_halfAt (halfAt_of_bytes (x := .ofInt 16 (c.thresholds.highWarn.getD 0)) (by simp [hl, byteAt]) (by simp [hl, byteAt])) (valueInRange_getD hhw).1 (valueInRange_getD hhw).2)
  have highCrit : presentAt c.presence 3 (valueAt l 17) = c.thresholds.highCrit :=
    presentAt_eq (bit 3 (by decide)) (valueAt_of_halfAt (halfAt_of_bytes (x := .ofInt 16 (c.thresholds.highCrit.getD 0)) (by simp [hl, byteAt]) (by simp [hl, byteAt])) (valueInRange_getD hhc).1 (valueInRange_getD hhc).2)
  have hyst : numAt l 19 = c.hyst := numAt_of_byteOf (by simp [hl, byteAt]) h.hyst
  have age : presentAt c.presence 4 (num16At l 20) = c.maxAge :=
    presentAt_eq (bit 4 (by decide)) (num16At_of_halfAt (halfAt_of_bytes (x := .ofNat 16 (c.maxAge.getD 0)) (by simp [hl, byteAt]) (by simp [hl, byteAt])) maxAge)
  have escalate : flag? (byteAt l 22) = some c.escalate := (congrArg flag? (by simp [hl, byteAt])).trans (flag?_flagByte _)
  have bandNotes : flag? (byteAt l 23) = some c.bandNotes := (congrArg flag? (by simp [hl, byteAt])).trans (flag?_flagByte _)
  have forward : forwardPolicy? (byteAt l 24) = some c.forward := (congrArg forwardPolicy? (by simp [hl, byteAt])).trans (forwardPolicy?_code _)
  have deadband : num16At l 25 = c.deadband := num16At_of_halfAt (halfAt_of_bytes (x := .ofNat 16 c.deadband) (by simp [hl, byteAt]) (by simp [hl, byteAt])) (by have := h.deadband; omega)
  have refresh : numAt l 27 = c.refresh := numAt_of_byteOf (by simp [hl, byteAt]) h.refresh.2
  simp only [PointConfig.bytes, valueBytes, optValueBytes, optNatBytes, natBytes, bytes16, List.cons_append, List.nil_append]
  rw [← hl]
  unfold pointConfig?
  simp only [channel, kind, escalate, bandNotes, forward, node, gain, offset, shift, presence, lowCrit, lowWarn, highWarn, highCrit, hyst, age,
    deadband, refresh]
  exact dif_pos ⟨h.node, c.shift.isLt, few, h.maxAge, h.deadband, by have := h.refresh.1; omega, h.ascending⟩

/-- What is read is admissible, and what was read where. -/
theorem pointConfig?_some {c : PointConfig} (h : pointConfig? p = some c) : c.InRange := by
  unfold pointConfig? at h
  dsimp only at h
  split at h
  · split at h
    · next hc =>
      rw [← Option.some.inj h]
      obtain ⟨hnode, -, -, hage, hdead, hrefresh, hasc⟩ := hc
      have value (k : Nat) : -32768 ≤ valueAt p k ∧ valueAt p k ≤ 32767 := by
        have := (halfAt p k).le_toInt
        have := (halfAt p k).toInt_lt
        unfold valueAt
        omega
      have byte (k : Nat) : numAt p k ≤ 255 := by unfold numAt; omega
      exact {
        node := hnode
        gain := value 5
        offset := value 7
        ascending := hasc
        hyst := byte 19
        maxAge := hage
        deadband := hdead
        refresh := ⟨Nat.one_le_iff_ne_zero.2 hrefresh, byte 27⟩ }
    · cases h
  · cases h

theorem nodeValid_iff (b : Byte) : nodeValid b = true ↔ 1 ≤ b.toNat ∧ b.toNat ≤ 126 := by simp [nodeValid]

theorem maxAgeValid_presentAt {presence : Byte} {bit : Nat} {n : Nat} : maxAgeValid (presentAt presence bit n) = true ↔
    (presence.getLsbD bit = true → 1 ≤ n ∧ n ≤ 600) := by
  unfold presentAt
  cases presence.getLsbD bit <;> simp [maxAgeValid]

/-- R34, R193: the payloads that carry a point configuration. -/
theorem pointConfig?_ne_none_iff : pointConfig? p ≠ none ↔
    (numAt p 3 ≤ 15 ∧ numAt p 4 ≤ 3 ∧ numAt p 22 ≤ 1 ∧ numAt p 23 ≤ 1 ∧ numAt p 24 ≤ 2) ∧
      nodeValid (byteAt p 2) = true ∧ numAt p 9 < 8 ∧ (byteAt p 10).toNat < 32 ∧ maxAgeValid (presentAt (byteAt p 10) 4 (num16At p 20)) = true ∧
        num16At p 25 ≤ 32767 ∧ numAt p 27 ≠ 0 ∧
        ({ lowCrit := presentAt (byteAt p 10) 0 (valueAt p 11), lowWarn := presentAt (byteAt p 10) 1 (valueAt p 13)
           highWarn := presentAt (byteAt p 10) 2 (valueAt p 15), highCrit := presentAt (byteAt p 10) 3 (valueAt p 17) } :
          Thresholds).ascending = true := by
  have channel := nodeChannel?_defined_iff (numAt p 3)
  have kind : _ ↔ numAt p 4 ≤ 3 := pointKind?_defined_iff (byteAt p 4)
  have escalate : _ ↔ numAt p 22 ≤ 1 := flag?_defined_iff (byteAt p 22)
  have bandNotes : _ ↔ numAt p 23 ≤ 1 := flag?_defined_iff (byteAt p 23)
  have forward : _ ↔ numAt p 24 ≤ 2 := forwardPolicy?_defined_iff (byteAt p 24)
  rw [← channel, ← kind, ← escalate, ← bandNotes, ← forward]
  unfold pointConfig?
  dsimp only
  split
  · next h1 h2 h3 h4 h5 =>
    rw [h1, h2, h3, h4, h5]
    split
    · next hc => exact ⟨fun _ => ⟨⟨by simp, by simp, by simp, by simp, by simp⟩, hc⟩, fun _ => by simp⟩
    · next hc => exact ⟨fun h => absurd rfl h, fun h => absurd h.2 hc⟩
  · next none =>
    refine ⟨fun h => absurd rfl h, fun ⟨⟨h1, h2, h3, h4, h5⟩, _⟩ => ?_⟩
    obtain ⟨_, h1⟩ := Option.ne_none_iff_exists'.1 h1
    obtain ⟨_, h2⟩ := Option.ne_none_iff_exists'.1 h2
    obtain ⟨_, h3⟩ := Option.ne_none_iff_exists'.1 h3
    obtain ⟨_, h4⟩ := Option.ne_none_iff_exists'.1 h4
    obtain ⟨_, h5⟩ := Option.ne_none_iff_exists'.1 h5
    exact (none _ _ _ _ _ h1 h2 h3 h4 h5).elim

/-! ## Regulator configurations read back (R84, R193) -/

theorem pointOf_byteOf (i : Fin 256) : pointOf (byteOf i.val) = i := Fin.ext (byteOf_toNat (by omega))

theorem regulatorConfig?_bytes {c : RegulatorConfig} (i : Byte) (h : c.InRange) (hfloor : valueInRange (some c.stallFloor)) :
    regulatorConfig? ([32, i] ++ (c.bytes ++ c.inputs.map (fun x => byteOf x.val))) = some c := by
  obtain ⟨l, hl⟩ : ∃ l, l = [32, i] ++ (c.bytes ++ c.inputs.map (fun x => byteOf x.val)) := ⟨_, rfl⟩
  simp only [RegulatorConfig.bytes, valueBytes, natBytes, bytes16, List.cons_append, List.nil_append] at hl ⊢
  obtain ⟨ceiling1, ceiling⟩ := h.ceiling
  obtain ⟨slew1, slew⟩ := h.slew
  obtain ⟨period1, period⟩ := h.period
  obtain ⟨window1, window⟩ := h.stallWindow
  have failsafe := h.failsafe
  obtain ⟨floor, floor'⟩ := hfloor c.stallFloor rfl
  have inputs : inputsOf l = c.inputs := by
    have dropped : l.drop 19 = c.inputs.map (fun x => byteOf x.val) := by simp [hl]
    unfold inputsOf
    rw [dropped, List.map_map]
    exact (List.map_congr_left fun x _ => pointOf_byteOf x).trans (List.map_id _)
  have combine : combine? (byteAt l 2) = some c.combine := (congrArg combine? (by simp [hl, byteAt])).trans (combine?_code _)
  have offAllowed : flag? (byteAt l 3) = some c.offAllowed := (congrArg flag? (by simp [hl, byteAt])).trans (flag?_flagByte _)
  have offHyst : numAt l 4 = c.offHyst := numAt_of_byteOf (by simp [hl, byteAt]) h.offHyst
  have ceilingAt : num16At l 5 = c.ceiling :=
    num16At_of_halfAt (halfAt_of_bytes (x := .ofNat 16 c.ceiling) (by simp [hl, byteAt]) (by simp [hl, byteAt])) (by omega)
  have failsafeAt : num16At l 7 = c.failsafe :=
    num16At_of_halfAt (halfAt_of_bytes (x := .ofNat 16 c.failsafe) (by simp [hl, byteAt]) (by simp [hl, byteAt])) (by omega)
  have slewAt : num16At l 9 = c.slew :=
    num16At_of_halfAt (halfAt_of_bytes (x := .ofNat 16 c.slew) (by simp [hl, byteAt]) (by simp [hl, byteAt])) (by omega)
  have periodAt : numAt l 11 = c.period := numAt_of_byteOf (by simp [hl, byteAt]) period
  have actuator : channelIndex? (numAt l 12) = some c.actuator :=
    channelIndex?_some (numAt_of_byteOf (by simp [hl, byteAt]) (by omega))
  have present : byteAt l 13 = flagByte c.feedback.isSome := by simp [hl, byteAt]
  have feedback : presentAt (byteAt l 13) 0 (pointOf (byteAt l 14)) = c.feedback := by
    have named : byteAt l 14 = byteOf ((c.feedback.map Fin.val).getD 0) := by simp [hl, byteAt]
    refine presentAt_eq (d := 0) ?_ ?_
    · rw [present]
      cases c.feedback.isSome <;> rfl
    · rw [named]
      cases c.feedback with
      | none => rfl
      | some x => exact pointOf_byteOf x
  have fewFlags : numAt l 13 < 2 := by
    unfold numAt
    rw [present]
    cases c.feedback.isSome <;> decide
  have floorAt : valueAt l 15 = c.stallFloor :=
    valueAt_of_halfAt (halfAt_of_bytes (x := .ofInt 16 c.stallFloor) (by simp [hl, byteAt]) (by simp [hl, byteAt])) floor floor'
  have windowAt : numAt l 17 = c.stallWindow := numAt_of_byteOf (by simp [hl, byteAt]) (by omega)
  have participate : flag? (byteAt l 18) = some c.participate := (congrArg flag? (by simp [hl, byteAt])).trans (flag?_flagByte _)
  rw [← hl]
  unfold regulatorConfig?
  simp only [inputs, combine, offAllowed, offHyst, ceilingAt, failsafeAt, slewAt, periodAt, actuator, feedback, floorAt, windowAt, participate]
  exact if_pos ⟨h.inputs.1, h.inputs.2.1, h.inputs.2.2, ceiling1, ceiling, failsafe, slew1, slew, by omega, fewFlags, window1, window⟩

theorem regulatorConfig?_some {c : RegulatorConfig} (h : regulatorConfig? p = some c) : c.InRange := by
  unfold regulatorConfig? at h
  dsimp only at h
  split at h
  · split at h
    · next hc =>
      obtain ⟨hin, hin6, hnodup, hceil, hceil', hfail, hslew, hslew', hperiod, -, hwin, hwin'⟩ := hc
      rw [← Option.some.inj h]
      have byte (k : Nat) : numAt p k ≤ 255 := by unfold numAt; omega
      exact {
        inputs := ⟨hin, hin6, hnodup⟩
        offHyst := byte 4
        ceiling := ⟨hceil, hceil'⟩
        failsafe := hfail
        slew := ⟨hslew, hslew'⟩
        period := ⟨Nat.one_le_iff_ne_zero.2 hperiod, byte 11⟩
        stallWindow := ⟨hwin, hwin'⟩ }
    · cases h
  · cases h

/-- R84, R193: the payloads that carry a regulator configuration. -/
theorem regulatorConfig?_ne_none_iff : regulatorConfig? p ≠ none ↔
    (numAt p 2 ≤ 1 ∧ numAt p 3 ≤ 1 ∧ numAt p 18 ≤ 1 ∧ numAt p 12 ≤ 15) ∧
      1 ≤ (inputsOf p).length ∧ (inputsOf p).length ≤ 6 ∧ (inputsOf p).Nodup ∧ 1 ≤ num16At p 5 ∧ num16At p 5 ≤ 1000 ∧
        num16At p 7 ≤ num16At p 5 ∧ 1 ≤ num16At p 9 ∧ num16At p 9 ≤ 1000 ∧ numAt p 11 ≠ 0 ∧ numAt p 13 < 2 ∧ 1 ≤ numAt p 17 ∧
        numAt p 17 ≤ 100 := by
  have combine : _ ↔ numAt p 2 ≤ 1 := combine?_defined_iff (byteAt p 2)
  have offAllowed : _ ↔ numAt p 3 ≤ 1 := flag?_defined_iff (byteAt p 3)
  have participate : _ ↔ numAt p 18 ≤ 1 := flag?_defined_iff (byteAt p 18)
  have actuator := channelIndex?_defined_iff (numAt p 12)
  rw [← combine, ← offAllowed, ← participate, ← actuator]
  unfold regulatorConfig?
  dsimp only
  split
  · next h1 h2 h3 h4 =>
    rw [h1, h2, h3, h4]
    split
    · next hc => exact ⟨fun _ => ⟨⟨by simp, by simp, by simp, by simp⟩, hc⟩, fun _ => by simp⟩
    · next hc => exact ⟨fun h => absurd rfl h, fun h => absurd h.2 hc⟩
  · next none =>
    refine ⟨fun h => absurd rfl h, fun ⟨⟨h1, h2, h3, h4⟩, _⟩ => ?_⟩
    obtain ⟨_, h1⟩ := Option.ne_none_iff_exists'.1 h1
    obtain ⟨_, h2⟩ := Option.ne_none_iff_exists'.1 h2
    obtain ⟨_, h3⟩ := Option.ne_none_iff_exists'.1 h3
    obtain ⟨_, h4⟩ := Option.ne_none_iff_exists'.1 h4
    exact (none _ _ _ _ h1 h2 h3 h4).elim

theorem inputsOf_nodup_iff : (inputsOf p).Nodup ↔ (p.drop 19).Nodup :=
  List.nodup_map_iff fun _ _ h => BitVec.toNat_inj.1 (Fin.val_eq_of_eq h)

/-! ## Breakpoints and counters read back (R86, R189) -/

theorem breakpointsOf_bytes (c : List Breakpoint) (h : ∀ b ∈ c, -32768 ≤ b.input ∧ b.input ≤ 32767 ∧ b.level ≤ 1000) :
    breakpointsOf (c.flatMap Breakpoint.bytes) = c := by
  induction c with
  | nil => rfl
  | cons b c ih =>
    obtain ⟨hlow, hhigh, hlevel⟩ := h b List.mem_cons_self
    have input := toInt_ofInt_value hlow hhigh
    have level : (BitVec.ofNat 16 b.level).toNat = b.level := by simp; omega
    rw [List.flatMap_cons]
    show { input := ((BitVec.ofInt 16 b.input).extractLsb' 8 8 ++ (BitVec.ofInt 16 b.input).extractLsb' 0 8 : BitVec 16).toInt
           level := ((BitVec.ofNat 16 b.level).extractLsb' 8 8 ++ (BitVec.ofNat 16 b.level).extractLsb' 0 8 : BitVec 16).toNat : Breakpoint } ::
      breakpointsOf (c.flatMap Breakpoint.bytes) = _
    rw [halves_append, halves_append, input, level, ih fun x hx => h x (List.mem_cons_of_mem b hx)]

/-- A counter entry read back from the place where it stands. -/
theorem counterEntry?_of_bytes {a : Counter} (h : ∀ i, i < 6 → byteAt p (k + i) = byteAt a.bytes i) : counterEntry? p k = some a := by
  have selector : selector? (byteAt p k) = some a.selector := (congrArg selector? (h 0 (by decide))).trans (selector?_code _)
  have flags : byteAt p (k + 1) = a.flags := h 1 (by decide)
  have few : numAt p (k + 1) < 4 := by
    unfold numAt
    rw [flags]
    exact bitsByte_lt _
  have note : (byteAt p (k + 1)).getLsbD 0 = a.noteOnOverflow := by rw [flags]; exact bitsByte_getLsbD (by decide)
  have freeze : (byteAt p (k + 1)).getLsbD 1 = a.freezeOnOverflow := by rw [flags]; exact bitsByte_getLsbD (by decide)
  have value : wordAt p (k + 2) = a.value := by
    unfold wordAt halfAt
    rw [h 2 (by decide), show k + 2 + 1 = k + 3 from rfl, h 3 (by decide), show k + 2 + 2 = k + 4 from rfl, h 4 (by decide),
      show k + 4 + 1 = k + 5 from rfl, h 5 (by decide)]
    exact words_append a.value
  unfold counterEntry?
  rw [selector]
  dsimp only
  rw [if_pos few, note, freeze, value]

theorem counterEntry?_ne_none_iff : counterEntry? p k ≠ none ↔ numAt p k ≤ 15 ∧ numAt p (k + 1) ≤ 3 := by
  have selector : _ ↔ numAt p k ≤ 15 := selector?_defined_iff (byteAt p k)
  rw [← selector]
  unfold counterEntry?
  cases selector? (byteAt p k) with
  | none => simp
  | some x =>
    dsimp only
    split
    · next h => exact ⟨fun _ => ⟨by simp, by omega⟩, fun _ => by simp⟩
    · next h => exact ⟨fun h' => absurd rfl h', fun ⟨_, h'⟩ => absurd h' (by omega)⟩

theorem counterEntries?_ne_none_iff : counterEntries? p ≠ none ↔
    counterEntry? p 1 ≠ none ∧ counterEntry? p 7 ≠ none ∧ counterEntry? p 13 ≠ none ∧ counterEntry? p 19 ≠ none := by
  unfold counterEntries?
  cases counterEntry? p 1 <;> cases counterEntry? p 7 <;> cases counterEntry? p 13 <;> cases counterEntry? p 19 <;> simp

theorem vector4_eq {α : Type} (v : Vector α 4) : v = #v[v[0], v[1], v[2], v[3]] := by
  ext i hi
  interval_cases i <;> rfl

theorem counterEntries?_bytes (v : Vector Counter 4) : counterEntries? (66 :: v.toList.flatMap Counter.bytes) = some v := by
  obtain ⟨a, b, c, d, rfl⟩ : ∃ a b c d, v = #v[a, b, c, d] := ⟨_, _, _, _, vector4_eq v⟩
  have read (x : Counter) (k : Nat) (h : ∀ i, i < 6 → byteAt (66 :: #v[a, b, c, d].toList.flatMap Counter.bytes) (k + i) = byteAt x.bytes i) :=
    counterEntry?_of_bytes h
  unfold counterEntries?
  rw [read a 1 fun i hi => ?_, read b 7 fun i hi => ?_, read c 13 fun i hi => ?_, read d 19 fun i hi => ?_]
  all_goals interval_cases i <;> rfl

/-- Settles O60: each reader by the bytes it finds at its offsets. -/
theorem configurationsReadBack : Obligations.ConfigurationsReadBack := by
  refine ⟨fun c i h hlc hlw hhw hhc => ⟨pointBytes_eq_layout c, ?_⟩, fun p c => pointConfig?_some, fun p => ?_, fun c i h hf => ?_,
    fun p c => regulatorConfig?_some, fun p => ?_, fun c h => ?_, fun v => ?_, fun p => ?_⟩
  · rw [← pointBytes_eq_layout]
    exact pointConfig?_bytes i h hlc hlw hhw hhc
  · intro present
    rw [pointConfig?_ne_none_iff, nodeValid_iff, maxAgeValid_presentAt, Thresholds.ascending, decide_eq_true_iff]
    show _ ↔ _ ∧ _ ∧ _ ∧ _ ∧ _ ∧ (byteAt p 10).toNat ≤ 31 ∧ _
    unfold presentAt numAt
    constructor
    · rintro ⟨⟨h3, h4, h22, h23, h24⟩, ⟨hn, hn'⟩, h9, h10, hage, hdead, h27, hasc⟩
      exact ⟨hn, hn', h3, h4, by omega, by omega, hage, hasc, h22, h23, h24, hdead, by omega⟩
    · rintro ⟨hn, hn', h3, h4, h9, h10, hage, hasc, h22, h23, h24, hdead, h27⟩
      exact ⟨⟨h3, h4, h22, h23, h24⟩, ⟨hn, hn'⟩, by omega, by omega, hage, hdead, by omega, hasc⟩
  · rw [← regulatorBytes_eq_layout]
    exact regulatorConfig?_bytes i h hf
  · have length : (inputsOf p).length = p.length - 19 := by simp [inputsOf]
    rw [regulatorConfig?_ne_none_iff, inputsOf_nodup_iff, length]
    constructor
    · rintro ⟨⟨h2, h3, h18, h12⟩, hl, hl', hnodup, h5, h5', h7, h9, h9', h11, h13, h17, h17'⟩
      exact ⟨h2, h3, h5, h5', h7, h9, h9', by omega, h12, by omega, h17, h17', h18, by omega, by omega, hnodup⟩
    · rintro ⟨h2, h3, h5, h5', h7, h9, h9', h11, h12, h13, h17, h17', h18, hl, hl', hnodup⟩
      exact ⟨⟨h2, h3, h18, h12⟩, by omega, by omega, hnodup, h5, h5', h7, h9, h9', by omega, by omega, h17, h17'⟩
  · simp only [← breakpointBytes_eq_layout]
    exact breakpointsOf_bytes c h
  · rw [← funext counterBytes_eq_layout]
    exact counterEntries?_bytes v
  · rw [counterEntries?_ne_none_iff]
    simp only [counterEntry?_ne_none_iff]
    refine ⟨fun ⟨h0, h1, h2, h3⟩ k => ?_, fun h => ⟨h 0, h 1, h 2, h 3⟩⟩
    match k with
    | 0 => exact h0
    | 1 => exact h1
    | 2 => exact h2
    | 3 => exact h3

end Sys2Proof.Machine
end

section
/-! One walk over the commands for the laws of the tables and of the Override Monitor (O6 to O11). None of them reads the Request Unit, the
Sweep Unit, the counters or the choices of order; of the Chain Interface they read at most which channel has the port, of the Note Unit at
most the alert record. What each law owes is then one fact for each operation on what it reads. -/

namespace Sys2Proof.Machine

/-- The ranges of section 6.1 that a WRITE_ACTUATOR keeps (R129). -/
structure ChannelConfig.InRange (n : ChannelConfig) : Prop where
  node : n.node.toNat ≤ 126
  ackTimeout : 1 ≤ n.ackTimeout ∧ n.ackTimeout ≤ 255
  retryLimit : n.retryLimit ≤ 7

theorem channelConfig?_inRange {p : List Byte} {n : ChannelConfig} (h : channelConfig? p = some n) : n.InRange := by
  unfold channelConfig? at h
  split at h
  · split at h
    · next hr =>
      obtain ⟨hnode, htime, hretry⟩ := hr
      cases h
      exact ⟨hnode, ⟨Nat.one_le_iff_ne_zero.2 htime, Nat.le_of_lt_succ (byteAt p 4).isLt⟩, hretry⟩
    · cases h
  · cases h

/-- R121: the applied level of an acknowledgement is a level. -/
theorem acknowledgement?_level {p : List Byte} {a : Acknowledgement} {l : Nat} (h : acknowledgement? p = some a) (hl : a.applied = some l) :
    l ≤ 1000 := by
  unfold acknowledgement? at h
  split at h
  · cases h
  · split at h
    · cases h
    · split at h
      · split at h
        · next hv => cases h; cases hl; exact hv
        · cases h
      · split at h
        · cases h; cases hl
        · cases h

theorem nextChannel_waiting {s : State} {c : Fin 16} (h : nextChannel s = some c) : (s.chan c).waiting = true := List.find?_some (p := fun c => (s.chan c).waiting) h

/-- No channel's SET is on the wire. -/
def Port.carriesNoSet (p : Port) : Prop := ∀ c bytes, p ≠ .busy (.channel c) bytes

/-- The property does not read what every command writes in passing: of the Note Unit at most the alert record, and neither the counters nor
the choices of order. -/
structure Incidental (P : State → Prop) : Prop where
  notes : ∀ {s : State} {u : NoteUnit}, u.alert = s.nu.alert → P s → P (s.withNu u)
  counters : ∀ {s : State} (k : TrafficCounters), P s → P (s.withCounters k)
  turns : ∀ {s : State} (l : List Turn), P s → P (s.withTurns l)
  queue : ∀ {s : State} (l : List Instr), P s → P (s.withPending l)

/-- Besides, the property reads of the Chain Interface at most the channel that has the port. -/
structure Wired (P : State → Prop) : Prop extends Incidental P where
  chain : ∀ {s : State} {x : ChainInterface}, x.port = s.ci.port ∨ s.ci.port.carriesNoSet → P s → P (s.withCi x)

/-- The property reads the tables and the Override Monitor at most: neither the Request Unit nor the Sweep Unit. -/
structure Tabular (P : State → Prop) : Prop extends Wired P where
  desk : ∀ {s : State} (u : RequestUnit), P s → P (s.withRu u)
  sweep : ∀ {s : State} (d : Option Sweep), P s → P (s.withSweep d)

/-- The property is kept by what a frame brings: readings, acknowledgements and requests. -/
structure Receiving (P : State → Prop) : Prop extends Wired P where
  reading : ∀ {s i p} (raw : Int), s.point i = some p → P s → P (acceptReading i p raw s).1
  ackOk : ∀ {s c l}, (s.chan c).state ≠ .idle → l ≤ 1000 → P s → P (ackOk c l s)
  ackReject : ∀ {s c}, (s.chan c).state ≠ .idle → P s → P (ackReject c s)
  req : ∀ {s : State} (f : Frame), P s → P (takeReq f s)

/-- The property is kept by every operation on the tables and on the Override Monitor, under the guards the model puts before it. -/
structure Upheld (P : State → Prop) : Prop extends Tabular P where
  reading : ∀ {s i p} (raw : Int), s.point i = some p → P s → P (acceptReading i p raw s).1
  ackOk : ∀ {s c l}, (s.chan c).state ≠ .idle → l ≤ 1000 → P s → P (ackOk c l s)
  ackReject : ∀ {s c}, (s.chan c).state ≠ .idle → P s → P (ackReject c s)
  grantSet : ∀ {s c}, s.ci.port.carriesNoSet → (s.chan c).waiting = true → P s → P (grantSet c s)
  setDone : ∀ {s c bytes}, s.ci.port = .busy (.channel c) bytes → P s → P (setDone c (s.withCi { s.ci with port := .free }))
  advance : ∀ {s}, P s → P (advanceTimebase s)
  staleness : ∀ {s} (i : Fin 256), P s → P (stalenessExpiry i s)
  period : ∀ {s} (r : Fin 32), P s → P (periodExpiry r s)
  hold : ∀ {s}, P s → P (holdExpiry s)
  window : ∀ {s} (r : Fin 32), P s → P (windowExpiry r s)
  ack : ∀ {s} (c : Fin 16), P s → P (ackExpiry c s)
  probe : ∀ {s} (c : Fin 16), P s → P (probeExpiry c s)
  visit : ∀ {s} (d : Sweep) (i : Fin 256), P s → P (visitRecord d i s)
  restart : ∀ {s}, P s → P (forEachRegulator restartRegulator (restartBlocks s))
  clear : ∀ {s}, P s → P (clearBlocks s)
  cold : ∀ (a : BitVec 7), P (State.cold a)
  holdTime : ∀ {s} (v : Nat), P s → P (s.withOm { s.om with holdTime := v })
  write : ∀ {s i c}, c.InRange → keyTaken s i c.key = false → (feedbackNamed s i = true → c.kind = .speed) → P s → P (carryOutWrite i c s)
  delete : ∀ {s i}, pointNamed s i = false → P s → P (leaveCritical i (s.setPoint i none))
  watch : ∀ {s i p w}, s.point i = some p → (∀ x, w = some x → x.tripped = false) → P s → P (s.setPoint i (some { p with watch := w }))
  configure : ∀ {s r} {c : RegulatorConfig}, c.InRange → pointsUsable s c = true →
    ((s.reg r).state = .disabled ∨ structuralChange (s.reg r).config c = false) → channelTaken s r c.actuator = false → P s →
    P (participateChange r (s.reg r) c (s.setReg r { s.reg r with config := c }))
  curve : ∀ {s} (r : Fin 32) {v}, curveValid v = true → P s → P (s.setReg r { s.reg r with curve := v })
  enable : ∀ {s r}, enableable s (s.reg r) = true → P s → P (carryOutEnable r s)
  disable : ∀ {s} (r : Fin 32), P s → P (carryOutDisable r s)
  manual : ∀ {s r l}, l ≤ 1000 → (s.reg r).state = .manual → P s → P (setManual r l s)
  taken : ∀ {s r l}, l ≤ 1000 → (s.reg r).state.controlling = true → P s → P (writeManual r (s.setReg r ((s.reg r).take .manual l none)))
  handover : ∀ {s r l} (ref : EntryRef), l ≤ 1000 → (s.reg r).state.controlling = true → P s →
    P (s.setReg r ((s.reg r).take .handover l (some ref)))
  level : ∀ {s r l}, l ≤ 1000 → (s.reg r).state = .handover → P s → P (s.setReg r { s.reg r with manualLevel := some l })
  release : ∀ {s r}, (s.reg r).state = .manual ∨ (s.reg r).state = .handover → P s → P (carryOutRelease r s)
  bind : ∀ {s c} {n : ChannelConfig}, n.InRange → channelEngaged s c = false → (s.chan c).exchangeOpen = false →
    n.node = 0 ∨ bindingTaken s c n = false → P s → P (carryOutBinding c n s)
  reset : ∀ {s} (c : Fin 16), P s → P (settleIdleChannel c (s.chan c) (s.chan c).abandon s)

variable {P : State → Prop} {s : State}

/-! ## Events, notes and requests -/

section
variable (hP : Incidental P)
include hP

theorem Incidental.signal {c : EventClass} (h : P s) : P (signal c s) := by
  have alert := signal_nu_alert c s
  obtain ⟨u, k, e⟩ := signal_frame c s
  rw [e] at alert ⊢
  exact hP.counters _ (hP.notes alert h)

theorem Incidental.signalTimes {c : EventClass} (n : Nat) (h : P s) : P (signalTimes c n s) := repeat_keeps _ P (fun _ => hP.signal) n h

theorem Incidental.raise {kind : NoteKind} {subject : Option Nat} {value : Int} {severity : Severity} (h : P s) :
    P (raise kind subject value severity s) := by
  have alert := raise_nu_alert kind subject value severity s
  obtain ⟨u, k, e⟩ := raise_frame kind subject value severity s
  rw [e] at alert ⊢
  exact hP.counters _ (hP.notes alert h)

end

section
variable (hP : Wired P)
include hP

/-- A write to the Chain Interface that leaves the port. -/
theorem Wired.moveCi {x : ChainInterface} (h : P s) (e : x.port = s.ci.port) : P (s.withCi x) := hP.chain (.inl e) h

theorem Wired.settleIdlePort (h : P s) : P (settleIdlePort s) := by
  rw [settleIdlePort_frame]; exact hP.moveCi h rfl

theorem Wired.raiseLink {e : Time} (h : P s) : P (raiseLink e s) := by
  unfold Machine.raiseLink; dsimp only; (repeat' split)
  · exact h
  · exact hP.moveCi h rfl
  · exact hP.moveCi h rfl
  · exact hP.raise (hP.moveCi h rfl)

theorem Wired.forward {f : Frame} (h : P s) : P (forward f s) := by
  obtain ⟨c, hc⟩ | ⟨-, hc⟩ := forward_cases f s <;> rw [hc]
  · exact hP.signal h
  · exact hP.moveCi h rfl

theorem Wired.consumeOrForward {f : Frame} (h : P s) : P (consumeOrForward f s) := by
  unfold Machine.consumeOrForward; split
  · exact h
  · exact hP.forward h

theorem Wired.returnSample {f : Frame} {kept : List Reading} (h : P s) : P (returnSample f kept s) := by
  unfold Machine.returnSample; split
  · exact h
  · exact hP.consumeOrForward h

end

theorem Tabular.clerical (hP : Tabular P) : Clerical P where
  book _ := hP.desk _
  event _ := hP.signal

theorem Tabular.completeEntry (hP : Tabular P) {ref : EntryRef} {code : RequestCode} {status : Status} {data : List Byte} (h : P s) :
    P (completeEntry ref code status data s) := hP.clerical.formReply _ (hP.desk _ h)

/-! ## Frames -/

section
variable (hP : Receiving P)
include hP

theorem Receiving.takeReading {src : Byte} {r : Reading} (h : P s) : P (takeReading src r s).1 := by
  unfold Machine.takeReading
  split
  · exact hP.signal h
  · dsimp only
    (repeat' split)
    · exact hP.signal h
    · exact hP.signal h
    · next hp => exact hP.reading _ (by simpa using hp) (hP.signal h)

theorem Receiving.takeReadings {src : Byte} (l : List Reading) (h : P s) : P (takeReadings src l s).1 := by
  induction l generalizing s with
  | nil => exact h
  | cons r l ih => exact ih (hP.takeReading h)

theorem Receiving.readSome {n : Nat} {w : SampleInWork} (h : P s) : P (readSome n w s) := by
  obtain ⟨-, hr⟩ | ⟨-, hr⟩ := readSome_cases n w s <;> rw [hr]
  · exact hP.returnSample (hP.takeReadings _ h)
  · exact hP.moveCi (hP.takeReadings _ h) rfl

theorem Receiving.readOn {d : Bool} {w : SampleInWork} (h : P s) : P (readOn d w s) := by
  obtain ⟨n, later, -, -, hr⟩ | ⟨-, hr⟩ := readOn_cases d w s <;> rw [hr]
  · exact hP.readSome (hP.turns _ h)
  · exact hP.readSome h

/-- R121: an acknowledgement that is taken carries a level of at most 1000 to a channel outside IDLE. -/
theorem Receiving.takeAck {src seq : Byte} {payload : List Byte} (h : P s) : P (takeAck src seq payload s) := by
  unfold Machine.takeAck
  split
  · exact hP.signal h
  · next a ha =>
    split
    · exact hP.signal h
    · next c hc =>
      split
      · next hm =>
        have working : (s.chan c).state ≠ .idle := by
          intro e; simp [Channel.matchesAck, e] at hm
        split
        · next l hl => exact hP.ackOk working (acknowledgement?_level ha hl) h
        · exact hP.ackReject working h
      · exact hP.signal h

theorem Receiving.takeValid {d : Bool} {f : Frame} (h : P s) : P (takeValid d f s) := by
  unfold Machine.takeValid classify takeSample; (repeat' split)
  · exact hP.forward h
  · exact h
  · exact hP.readOn h
  · exact hP.consumeOrForward h
  · exact hP.takeAck h
  · exact hP.req f h
  · exact h
  all_goals exact hP.forward h

theorem Receiving.frameEnd {d : Bool} (h : P s) : P (frameEnd d s) := by
  obtain ⟨w, -, hr⟩ | ⟨-, -, hr⟩ | ⟨f, -, -, ⟨-, hr⟩ | ⟨-, hr⟩⟩ := frameEnd_cases d s <;> rw [hr]
  · exact hP.settleIdlePort (hP.readOn (hP.moveCi h rfl))
  · exact h
  · exact hP.settleIdlePort (hP.takeValid (hP.raiseLink (hP.signal (hP.moveCi h rfl))))
  · exact hP.signal (hP.signal (hP.moveCi h rfl))

theorem Receiving.receiveSymbol {x : Symbol} (h : P s) : P (receiveSymbol x s) := by
  have timed : P (startLinkTimer s) := hP.moveCi h rfl
  unfold Machine.receiveSymbol takeDelimiter takeData endFrame collect; (repeat' split)
  · exact timed
  · exact hP.moveCi (hP.frameEnd timed) rfl
  · exact hP.moveCi timed rfl
  · exact hP.moveCi timed rfl
  · exact timed
  · exact hP.moveCi timed rfl
  · exact hP.moveCi (hP.frameEnd timed) rfl

theorem Receiving.linkDownExpiry (h : P s) : P (linkDownExpiry s) := by
  have cut {u : State} (hu : P u) : P (truncateFrame u) := by
    unfold truncateFrame; split
    · exact hP.signal (hP.signal (hP.moveCi hu rfl))
    all_goals exact hu
  unfold Machine.linkDownExpiry linkDown; (repeat' split)
  · exact h
  · exact hP.moveCi (cut (hP.frameEnd h)) rfl
  · exact hP.moveCi (cut (hP.frameEnd h)) rfl
  · exact h

end

section
variable (hP : Upheld P)
include hP

theorem Upheld.receiving : Receiving P where
  toWired := hP.toWired
  reading := hP.reading
  ackOk := hP.ackOk
  ackReject := hP.ackReject
  req f h := by
    unfold takeReq; split
    · exact hP.desk _ h
    · exact hP.signal h

/-! ## The port -/

/-- With the port FREE no SET is on the wire, so that any write to the Chain Interface is admitted. -/
theorem Upheld.egressGrant (h : P s) : P (egressGrant s) := by
  unfold Machine.egressGrant
  split
  · next hfree =>
    have quiet : s.ci.port.carriesNoSet := fun c bytes e => by rw [hfree] at e; cases e
    split
    · exact h
    · unfold grantTransit
      split
      · exact h
      · exact hP.chain (.inr quiet) (hP.moveCi h rfl)
    · unfold grantOriginated
      split
      · exact hP.chain (.inr quiet) (hP.desk _ h)
      · next c _ _ _ hc => exact hP.grantSet quiet (nextChannel_waiting hc) h
      · next o _ _ _ _ =>
        refine hP.chain (.inr quiet) (hP.notes ?_ h)
        cases o <;> rfl
      · exact h
  · exact h

theorem Upheld.egressDone (h : P s) : P (egressDone s) := by
  unfold Machine.egressDone
  split
  · exact h
  · next p bytes hport =>
    refine hP.settleIdlePort ?_
    have freed (hp : ∀ c, p ≠ .channel c) : P (s.withCi { s.ci with port := .free }) :=
      hP.chain (.inr fun c b e => by rw [hport] at e; cases e; exact hp c rfl) h
    cases p with
    | transit => exact hP.signal (freed nofun)
    | reply => exact freed nofun
    | channel c => exact hP.setDone hport h
    | note =>
      unfold deliverDone noteDone
      dsimp only
      split
      · exact hP.notes rfl (hP.signal (freed nofun))
      · exact hP.signal (freed nofun)

/-! ## Every command -/

theorem Upheld.sweepStep (h : P s) : P (sweepStep s) := by
  have step {u : State} (hu : P u) : P (Machine.visit u) := by
    unfold Machine.visit
    split
    · exact hu
    · split
      · exact hu
      · split
        · exact hP.sweep _ (hP.visit _ _ hu)
        · exact hu
  have visited : P (Nat.repeat Machine.visit Config.sweepBatch s) := repeat_keeps _ P (fun _ => step) _ h
  unfold Machine.sweepStep sweepAfterVisits; (repeat' split)
  · exact h
  · exact visited
  · exact hP.sweep _ visited
  · exact hP.completeEntry (hP.sweep _ visited)
  · exact h

theorem Upheld.request {accepts : Request → Bool} {owner : Owner} (own : ∀ q {u}, P u → P (owner q u).1) (h : P s) :
    P (takeRequest accepts owner s) := hP.clerical.takeRequest own h

theorem Upheld.reads {accepts : Request → Bool} {owner : Owner} (reads : ∀ q u, (owner q u).1 = u) (h : P s) :
    P (takeRequest accepts owner s) := hP.request (fun q u hu => by rw [reads]; exact hu) h

theorem Upheld.readStatus (h : P s) : ∃ t, execReadStatus s = .next t ∧ P t := by
  have reads (r : StatusRead) {u : State} (hu : P u) : P (readStatusOn r u).1 := by
    obtain ⟨x, hx⟩ := readStatusOn_leaves r u
    rw [hx]; exact hP.turns _ hu
  obtain ⟨x, -, hx⟩ | ⟨-, hx⟩ := execReadStatus_cases s
  · exact ⟨_, hx, hP.clerical.finish _ _ (reads _ (hP.desk _ h))⟩
  · exact ⟨_, hx, hP.request (fun q u hu => reads _ hu) h⟩

/-- Every command keeps the property. -/
theorem Upheld.exec (c : Instr) (h : P s) : ∃ t, exec c s = .next t ∧ P t := by
  cases c with
  | coldReset a => exact ⟨_, rfl, hP.turns _ (hP.queue _ (hP.cold a))⟩
  | timebaseAdvance => exact ⟨_, rfl, hP.advance h⟩
  | frameEnd => exact ⟨_, rfl, hP.receiving.frameEnd h⟩
  | symbolReceived x => exact ⟨_, rfl, hP.receiving.receiveSymbol h⟩
  | linkDownTimerExpiry => exact ⟨_, rfl, hP.receiving.linkDownExpiry h⟩
  | egressGrant => exact ⟨_, rfl, hP.egressGrant h⟩
  | egressDone => exact ⟨_, rfl, hP.egressDone h⟩
  | stalenessExpiry i => exact ⟨_, rfl, hP.staleness i h⟩
  | periodTimerExpiry r => exact ⟨_, rfl, hP.period r h⟩
  | holdTimerExpiry => exact ⟨_, rfl, hP.hold h⟩
  | stallWindowExpiry r => exact ⟨_, rfl, hP.window r h⟩
  | ackTimerExpiry c => exact ⟨_, rfl, hP.ack c h⟩
  | probeTimerExpiry c => exact ⟨_, rfl, hP.probe c h⟩
  | resendTimerExpiry =>
    refine ⟨_, rfl, ?_⟩
    unfold resendExpiry; split
    · exact hP.notes rfl h
    · exact h
  | sweepStepExpiry => exact ⟨_, rfl, hP.sweepStep h⟩
  | identify => exact ⟨_, rfl, hP.reads ownIdentify_reads h⟩
  | readPoint => exact ⟨_, rfl, hP.reads ownReadPoint_reads h⟩
  | findPoint => exact ⟨_, rfl, hP.reads ownFindPoint_reads h⟩
  | readRegulator => exact ⟨_, rfl, hP.reads ownReadRegulator_reads h⟩
  | readActuator => exact ⟨_, rfl, hP.reads ownReadActuator_reads h⟩
  | readCounters => exact ⟨_, rfl, hP.reads ownReadCounters_reads h⟩
  | malformedRequest => exact ⟨_, rfl, hP.reads ownMalformed_reads h⟩
  | readStatus => exact hP.readStatus h
  | bind =>
    refine ⟨_, rfl, hP.request (fun q u hu => ?_) h⟩
    obtain hr | ⟨-, hr⟩ := ownBind_leaves q u <;> rw [hr]
    · exact hu
    · exact hP.desk _ hu
  | unbind =>
    refine ⟨_, rfl, hP.request (fun q u hu => ?_) h⟩
    obtain hr | hr := ownUnbind_leaves q u <;> rw [hr]
    · exact hu
    · exact hP.notes rfl (hP.desk _ hu)
  | restart => exact ⟨_, rfl, hP.request (fun q u hu => hP.signalTimes _ (hP.restart hu)) h⟩
  | clearAll => exact ⟨_, rfl, hP.request (fun q u hu => hP.signalTimes _ (hP.clear hu)) h⟩
  | setChain =>
    refine ⟨_, rfl, hP.request (fun q u hu => ?_) h⟩
    obtain hr | ⟨v, -, hr⟩ := ownSetChain_leaves q u <;> rw [hr]
    · exact hu
    · exact hP.moveCi hu rfl
  | setOverride =>
    refine ⟨_, rfl, hP.request (fun q u hu => ?_) h⟩
    obtain hr | ⟨v, hr⟩ := ownSetOverride_leaves q u <;> rw [hr]
    · exact hu
    · exact hP.holdTime v hu
  | writePoint =>
    refine ⟨_, rfl, hP.request (fun q u hu => ?_) h⟩
    obtain hr | ⟨i, c, hc, hkey, hkind, hr⟩ := ownWritePoint_leaves q u <;> rw [hr]
    · exact hu
    · exact hP.write (pointConfig?_some hc) hkey hkind hu
  | deletePoint =>
    refine ⟨_, rfl, hP.request (fun q u hu => ?_) h⟩
    obtain hr | ⟨i, hn, hr⟩ := ownDeletePoint_leaves q u <;> rw [hr]
    · exact hu
    · exact hP.delete hn hu
  | setWatch =>
    refine ⟨_, rfl, hP.request (fun q u hu => ?_) h⟩
    obtain hr | ⟨i, p, w, hp, -, ht, hr⟩ := ownSetWatch_leaves q u <;> rw [hr]
    · exact hu
    · exact hP.watch hp (by rintro _ ⟨⟩; exact ht) hu
  | clearWatch =>
    refine ⟨_, rfl, hP.request (fun q u hu => ?_) h⟩
    obtain hr | ⟨i, p, hp, hr⟩ := ownClearWatch_leaves q u <;> rw [hr]
    · exact hu
    · exact hP.watch hp nofun hu
  | writeRegulator =>
    refine ⟨_, rfl, hP.request (fun q u hu => ?_) h⟩
    obtain hr | ⟨r, c, hc, hpoints, hsame, hfree, hr⟩ := ownWriteRegulator_leaves q u <;> rw [hr]
    · exact hu
    · exact hP.configure (regulatorConfig?_some hc) hpoints hsame hfree hu
  | writeCurve =>
    refine ⟨_, rfl, hP.request (fun q u hu => ?_) h⟩
    obtain hr | ⟨r, v, hv, hr⟩ := ownWriteCurve_leaves q u <;> rw [hr]
    · exact hu
    · exact hP.curve r hv hu
  | enableRegulator =>
    refine ⟨_, rfl, hP.request (fun q u hu => ?_) h⟩
    obtain hr | ⟨r, hn, hr⟩ := ownEnableRegulator_leaves q u <;> rw [hr]
    · exact hu
    · exact hP.enable hn hu
  | disableRegulator =>
    refine ⟨_, rfl, hP.request (fun q u hu => ?_) h⟩
    obtain hr | ⟨r, hr⟩ := ownDisableRegulator_leaves q u <;> rw [hr]
    · exact hu
    · exact hP.disable r hu
  | takeManual =>
    refine ⟨_, rfl, hP.request (fun q u hu => ?_) h⟩
    obtain ⟨hr, -⟩ | ⟨r, l, hl, ⟨hm, hr, -⟩ | ⟨hm, ⟨x, d, hr⟩ | ⟨-, hr⟩⟩⟩ := ownTakeManual_leaves q u <;> rw [hr]
    · exact hu
    · exact hP.manual hl hm hu
    · exact hP.taken (s := u.withTurns x) hl hm (hP.turns x hu)
    · exact hP.handover _ hl hm hu
  | setManualLevel =>
    refine ⟨_, rfl, hP.request (fun q u hu => ?_) h⟩
    obtain hr | ⟨r, l, hl, ⟨hm, hr⟩ | ⟨hm, hr⟩⟩ := ownSetManualLevel_leaves q u <;> rw [hr]
    · exact hu
    · exact hP.manual hl hm hu
    · exact hP.level hl hm hu
  | releaseManual =>
    refine ⟨_, rfl, hP.request (fun q u hu => ?_) h⟩
    obtain hr | ⟨r, hm, hr⟩ := ownReleaseManual_leaves q u <;> rw [hr]
    · exact hu
    · exact hP.release hm hu
  | writeActuator =>
    refine ⟨_, rfl, hP.request (fun q u hu => ?_) h⟩
    obtain hr | ⟨c, n, hn, hidle, hopen, hkey, hr⟩ := ownWriteActuator_leaves q u <;> rw [hr]
    · exact hu
    · exact hP.bind (channelConfig?_inRange hn) hidle hopen hkey hu
  | resetActuator =>
    refine ⟨_, rfl, hP.request (fun q u hu => ?_) h⟩
    obtain hr | ⟨c, hr⟩ := ownResetActuator_leaves q u <;> rw [hr]
    · exact hu
    · exact hP.reset c hu
  | ackNotes =>
    refine ⟨_, rfl, hP.request (fun q u hu => ?_) h⟩
    obtain hr | ⟨x, rest, -, hr⟩ := ownAckNotes_leaves q u <;> rw [hr]
    · exact hu
    · exact hP.notes rfl hu
  | sweep =>
    refine ⟨_, rfl, hP.request (fun q u hu => ?_) h⟩
    obtain ⟨hr, -⟩ | ⟨-, -, -, hr⟩ := ownSweep_leaves q u <;> rw [hr]
    · exact hu
    · exact hP.sweep _ hu
  | writeCounters =>
    refine ⟨_, rfl, hP.request (fun q u hu => ?_) h⟩
    obtain hr | ⟨v, hr⟩ := ownWriteCounters_leaves q u <;> rw [hr]
    · exact hu
    · exact hP.counters _ hu

/-- Every step keeps the property. -/
theorem Upheld.step {t : State} (h : P s) (ht : step s = .next t) : P t :=
  step_keeps (fun _ l => hP.queue l)
    (fun c _ _ he hs => by obtain ⟨u, hu, hPu⟩ := hP.exec c hs; exact Host.Outcome.next.inj (hu.symm.trans he) ▸ hPu) h ht

end

end Sys2Proof.Machine
end

section
/-! What the operations of the model do to a property that reads only a part of the tables: one that takes a record written as lawful and a
report (`Reporting`), one that does not read the critical set and the phase (`Apart`), one that reads of a regulator at most its configuration, its manual level and whether it is DISABLED (`Steady`), and one
that does not read the supervisors and of a channel at most its binding and its levels (`Calm`). -/

namespace Sys2Proof.Machine

variable {P : State → Prop} {s : State}

/-! ## The critical set and the phase -/

/-- The property reads neither the critical set nor the phase; a point record may be written that keeps its configuration and stays lawful. -/
structure Apart (P : State → Prop) : Prop extends Incidental P where
  om : ∀ {s : State} (x : OverrideMonitor), P s → P (s.withOm x)
  told : ∀ {s : State} (b : Bool), P s → P (tellOverride b s)
  point : ∀ {s i p q}, s.point i = some p → q.config = p.config → (p.Lawful → q.Lawful) → P s → P (s.setPoint i (some q))
  feedback : ∀ {s : State} (i : Fin 256) (f : Int), P s → P (handFeedback i f s)
  wentStale : ∀ {s : State} (i : Fin 256), P s → P (handStaleness i s)
  entry : ∀ (r : Fin 32) {s : State}, P s → P (entryNotice r s)
  clearing : ∀ (r : Fin 32) {s : State}, P s → P (clearingNotice r s)

section
variable (hP : Apart P)
include hP

theorem Apart.overrideEntry (p : Fin 256) (h : P s) : P (overrideEntry p s) :=
  forEachRegulator_keeps _ P (fun r _ => hP.entry r) (hP.raise (hP.told _ (hP.om _ h)))

theorem Apart.overrideClearing (h : P s) : P (overrideClearing s) :=
  forEachRegulator_keeps _ P (fun r _ => hP.clearing r) (hP.raise (hP.told _ (hP.om _ h)))

theorem Apart.joinCritical (p : Fin 256) (h : P s) : P (joinCritical p s) := by
  unfold Machine.joinCritical; dsimp only; (repeat' split)
  · exact h
  · exact hP.overrideEntry _ (hP.om _ h)
  · exact hP.told _ (hP.om _ (hP.om _ h))
  · exact hP.told _ (hP.om _ (hP.om _ h))
  · exact hP.om _ h

theorem Apart.leaveCritical (p : Fin 256) (h : P s) : P (leaveCritical p s) := by
  unfold Machine.leaveCritical; dsimp only; (repeat' split)
  · exact hP.told _ (hP.om _ (hP.om _ h))
  · exact hP.overrideClearing (hP.om _ h)
  · exact hP.om _ h
  · exact h

end

/-- A point record may be written that keeps its configuration and stays lawful, and its band reported. -/
structure Reporting (P : State → Prop) : Prop extends Incidental P where
  point : ∀ {s i p q}, s.point i = some p → q.config = p.config → (p.Lawful → q.Lawful) → P s → P (s.setPoint i (some q))
  feedback : ∀ {s : State} (i : Fin 256) (f : Int), P s → P (handFeedback i f s)
  wentStale : ∀ {s : State} (i : Fin 256), P s → P (handStaleness i s)
  join : ∀ {s : State} (i : Fin 256), P s → P (joinCritical i s)
  leave : ∀ {s : State} (i : Fin 256), P s → P (leaveCritical i s)

theorem Apart.reporting (hP : Apart P) : Reporting P where
  toIncidental := hP.toIncidental
  point := hP.point
  feedback := hP.feedback
  wentStale := hP.wentStale
  join := hP.joinCritical
  leave := hP.leaveCritical

theorem Apart.hold (hP : Apart P) (h : P s) : P (holdExpiry s) := by
  unfold holdExpiry; split
  · exact hP.overrideClearing h
  · exact h

theorem Reporting.handBandOn (hP : Reporting P) {i : Fin 256} {cfg : PointConfig} {old new : Band} {f : Int} (h : P s) :
    P (handBandOn i cfg old new f s) := by
  have report {u : State} (hu : P u) : P (reportBand i new u) := by
    unfold reportBand; split
    · exact hP.join i hu
    · exact hP.leave i hu
  unfold Machine.handBandOn
  dsimp only
  split <;> split
  · exact hP.feedback _ _ (report (hP.raise h))
  · exact hP.feedback _ _ (report h)
  · exact hP.feedback _ _ (hP.raise h)
  · exact hP.feedback _ _ h

/-! ## Point records (R28 to R31, R53, R58 to R60, R181) -/

theorem convert_inRange (c : PointConfig) (raw : Int) : -32768 ≤ c.convert raw ∧ c.convert raw ≤ 32767 := by
  rw [convert_eq]; omega

/-- R28: the filter moves toward the converted value and not past it. -/
theorem smooth_inRange {shift : Fin 8} {r : PointRuntime} {c : Int} (h : valueInRange r.filtered) (hc : -32768 ≤ c ∧ c ≤ 32767) :
    -32768 ≤ smooth shift r c ∧ smooth shift r c ≤ 32767 := by
  unfold smooth
  split
  · exact hc
  · next f hf =>
    split
    · exact hc
    · have hr := h f hf
      unfold truncDiv
      have toward : ((c - f).tdiv (2 ^ shift.val)).natAbs ≤ (c - f).natAbs := by
        rw [Int.natAbs_tdiv]; exact Nat.div_le_self _ _
      rcases Int.le_total 0 (c - f) with hs | hs
      · have := Int.tdiv_nonneg hs (b := 2 ^ shift.val) (by positivity)
        omega
      · have : 0 ≤ (-(c - f)).tdiv (2 ^ shift.val) := Int.tdiv_nonneg (by omega) (by positivity)
        rw [Int.neg_tdiv] at this
        omega

theorem Point.Lawful.measured {p : Point} (h : p.Lawful) (raw : Int) (now : Time) : (p.measured raw now).Lawful := by
  obtain ⟨unknown, stale⟩ := nextBand_defined p.config.thresholds p.config.hyst p.runtime.band
    (smooth p.config.shift p.runtime (p.config.convert raw))
  exact {
    config := h.config
    fresh := fun _ => rfl
    unknown := fun e => absurd e unknown
    timer := by
      unfold Point.measured
      dsimp only
      split
      · next hm =>
        obtain ⟨age, ha⟩ := Option.isSome_iff_exists.1 hm
        simp [ha, staleTimerFrom, stale]
      · next hm => simpa [hm] using h.timer
    watch := h.watch
    filtered := by rintro _ ⟨⟩; exact smooth_inRange h.filtered (convert_inRange _ _)
    converted := by rintro _ ⟨⟩; exact convert_inRange _ _
    count := Nat.min_le_left _ _
    since := h.since }

theorem Watch.evaluate_armed (w : Watch) (f : Int) (h : ¬ (w.valid = false ∧ w.tripped = true)) :
    ¬ ((w.evaluate f).valid = false ∧ (w.evaluate f).tripped = true) := by
  unfold Watch.evaluate
  split
  · exact h
  · exact fun e => absurd e.1 (by simp)

/-- R60: a removed reading leaves since_forward below refresh. -/
theorem Point.Lawful.decided {p m : Point} {f c : Int} {changed : Bool} (h : m.Lawful) (hc : m.config = p.config)
    (hs : m.runtime.sinceForward = p.runtime.sinceForward) : (m.decided f c (stays p.config p.runtime changed c)).Lawful := by
  have watch : ∀ w, (m.watch.map fun w => w.evaluate f) = some w → ¬ (w.valid = false ∧ w.tripped = true) := by
    intro w hw
    obtain ⟨v, hv, rfl⟩ := Option.map_eq_some_iff.1 hw
    exact v.evaluate_armed f (h.watch v hv)
  have bound : 1 ≤ p.config.refresh ∧ p.config.refresh ≤ 255 := hc ▸ h.config.refresh
  unfold Point.decided PointRuntime.forwarded
  split
  · exact { h with watch := watch }
  · exact { h with watch := watch }
  · next hf =>
    split
    · exact { h with
        watch := watch
        since := Nat.zero_le _ }
    · next hk =>
      have later : m.runtime.sinceForward + 1 < p.config.refresh := by
        rw [hc] at hf
        unfold stays at hk
        simp only [hf, Bool.or_eq_true, decide_eq_true_eq, not_or] at hk
        obtain ⟨⟨-, hk⟩, -⟩ := hk
        omega
      exact { h with
        watch := watch
        since := by show m.runtime.sinceForward + 1 ≤ 254; omega }

theorem Point.Lawful.wentStale {p : Point} (h : p.Lawful) : p.wentStale.Lawful :=
  { h with
    fresh := fun e => absurd e (by simp [Point.fresh, Point.wentStale])
    unknown := fun e => absurd e (by simp [Point.wentStale])
    timer := by simp [Point.wentStale] }

theorem staleTimerFrom_isSome (now : Time) (age : Option Nat) : (staleTimerFrom now age).isSome = age.isSome := by cases age <;> rfl

/-- A watch that starts again is not tripped. -/
theorem rearm_untripped {w : Option Watch} : ∀ x, w.map Watch.rearm = some x → x.tripped = false := by
  intro x hx
  obtain ⟨v, -, rfl⟩ := Option.map_eq_some_iff.1 hx
  rfl

/-- A record whose runtime starts anew: an empty filter in UNKNOWN, the staleness timer from now, no watch tripped. -/
theorem Point.Lawful.anew {p : Point} {now : Time} (hc : p.config.InRange) (hb : p.runtime.band = .unknown)
    (hf : p.runtime.filtered = none) (hl : p.runtime.lastConverted = none) (hn : p.runtime.count ≤ 65535) (hs : p.runtime.sinceForward = 0)
    (ht : p.staleTimer = staleTimerFrom now p.config.maxAge) (hw : ∀ x, p.watch = some x → x.tripped = false) : p.Lawful where
  config := hc
  fresh e := by simp [Point.fresh, hb] at e
  unknown _ := hf
  timer := by simp [ht, staleTimerFrom_isSome, hb]
  watch w e := by simp [hw w e]
  filtered := by simp [valueInRange, hf]
  converted := by simp [valueInRange, hl]
  count := hn
  since := by omega

theorem Point.Lawful.visited {p : Point} (h : p.Lawful) (d : Sweep) (now : Time) : (p.visited d now).Lawful := by
  have cleared : p.clearStats.Lawful := { h with count := Nat.zero_le _ }
  have rebased {q : Point} (hq : q.Lawful) : (q.rebase now).Lawful := .anew hq.config rfl rfl rfl hq.count rfl rfl rearm_untripped
  unfold Point.visited
  dsimp only
  split <;> split
  · exact rebased cleared
  · exact rebased h
  · exact cleared
  · exact h

theorem Point.visited_config (p : Point) (d : Sweep) (now : Time) : (p.visited d now).config = p.config := by
  unfold Point.visited; dsimp only; (repeat' split) <;> rfl

section
variable (hP : Reporting P)
include hP

theorem Reporting.reading {i : Fin 256} {p : Point} (raw : Int) (hp : s.point i = some p) (h : P s) : P (acceptReading i p raw s).1 := by
  have measured : P (s.setPoint i (some (p.measured raw s.timebase))) := hP.point hp rfl (fun hl => hl.measured _ _) h
  have decided {old new : Band} {f c : Int} {changed : Bool} :
      P ((Machine.handBandOn i p.config old new f (s.setPoint i (some (p.measured raw s.timebase)))).setPoint i
        (some ((p.measured raw s.timebase).decided f c (stays p.config p.runtime changed c)))) :=
    hP.point (p := p.measured raw s.timebase) (by rw [handBandOn_point, State.setPoint_self]) rfl (fun hl => hl.decided (p := p) rfl rfl) (hP.handBandOn measured)
  unfold Machine.acceptReading
  dsimp only
  split <;> split
  · exact hP.raise decided
  · exact decided
  · exact hP.signal (hP.raise decided)
  · exact hP.signal decided

theorem Reporting.staleness (i : Fin 256) (h : P s) : P (stalenessExpiry i s) := by
  unfold Machine.stalenessExpiry
  split
  · exact h
  · next p hp =>
    have staled : P (s.setPoint i (some p.wentStale)) := hP.point hp rfl (fun hl => hl.wentStale) h
    dsimp only
    (repeat' split)
    · exact hP.wentStale _ (hP.raise staled)
    · exact hP.wentStale _ staled
    · exact h

theorem Reporting.visit (d : Sweep) (i : Fin 256) (h : P s) : P (visitRecord d i s) := by
  unfold visitRecord
  split
  · exact h
  · next p hp =>
    have acted : P (s.setPoint i (some (p.visited d s.timebase))) := hP.point hp (p.visited_config d _) (fun hl => hl.visited d _) h
    dsimp only
    split
    · exact hP.leave _ acted
    · exact acted

theorem Reporting.watch {i : Fin 256} {p : Point} {w : Option Watch} (hp : s.point i = some p) (hw : ∀ x, w = some x → x.tripped = false) (h : P s) :
    P (s.setPoint i (some { p with watch := w })) :=
  hP.point hp rfl (fun hl => { hl with watch := fun x hx => by simp [hw x hx] }) h

end

/-! ## Regulators -/

/-- The property admits what regulators under control do: a record moves to a state of control with another output, latch or timer, and a
level of its regulator is written to its channel. -/
structure Driving (P : State → Prop) : Prop extends Incidental P where
  run : ∀ {s : State} {r : Fin 32} {x : RegulatorState} {o : Option Nat} {b : Bool} {timer : Option Time},
    x ≠ .disabled ∨ x = (s.reg r).state → P s →
    P (s.setReg r { s.reg r with state := x, output := o, offLatched := b, periodTimer := timer })
  drive : ∀ {s : State} {r : Fin 32} {c : Fin 16} {l : Nat}, c = (s.reg r).config.actuator →
    (l ≤ (s.reg r).config.ceiling ∨ l ≤ (s.reg r).config.failsafe ∨ (s.reg r).manualLevel = some l) → P s → P (writeDesired c l s)

section
variable (hP : Driving P) {r : Fin 32}
include hP

/-- An evaluation moves the record, may raise a note, and writes the output to the channel. -/
theorem Driving.driven {g : Regulator} {l : Nat} {b : Bool} {x : RegulatorState} {v : Severity} (h : P (s.setReg r g))
    (hl : l ≤ g.config.ceiling ∨ l ≤ g.config.failsafe) :
    P (writeDesired g.config.actuator l (if b then raiseRegState r x v (s.setReg r g) else s.setReg r g)) := by
  have bound {u : State} (hu : u.reg r = g) : l ≤ (u.reg r).config.ceiling ∨ l ≤ (u.reg r).config.failsafe ∨ (u.reg r).manualLevel = some l := by
    rw [hu]; exact hl.imp_right .inl
  cases b with
  | true => exact hP.drive (r := r) (by simp) (bound (by simp)) (hP.raise h)
  | false => exact hP.drive (r := r) (by simp) (bound (by simp)) h

theorem Driving.evaluate {notes : Bool} (h : P s) : P (evaluate notes r s) := by
  unfold Machine.evaluate
  dsimp only
  split
  · have moved : P (s.setReg r { s.reg r with state := .failsafe, output := some (s.reg r).config.failsafe }) :=
      hP.run (.inl nofun) h
    exact hP.driven moved (.inr (Nat.le_refl _))
  · have moved (o : Nat) (b : Bool) : P (s.setReg r { s.reg r with state := .auto, output := some o, offLatched := b }) :=
      hP.run (.inl nofun) h
    exact hP.driven (moved _ _) (.inl (slewOutput_le _ _ _ _))

theorem Driving.assertCeiling (h : P s) : P (assertCeiling r s) := by
  have moved : P (s.setReg r { s.reg r with state := .override, output := some (s.reg r).config.ceiling }) :=
    hP.run (.inl nofun) h
  exact hP.drive (r := r) (by simp) (.inl (by simp)) moved

theorem Driving.resumeControl (h : P s) : P (resumeControl r s) := by
  unfold Machine.resumeControl; split
  · exact hP.assertCeiling h
  · exact hP.evaluate h

theorem Driving.entry (h : P s) : P (entryNotice r s) := by
  unfold entryNotice; dsimp only; split
  · exact hP.assertCeiling h
  · exact h

theorem Driving.clearing (h : P s) : P (clearingNotice r s) := by
  unfold clearingNotice; split
  · exact hP.evaluate h
  · exact h

theorem Driving.startPeriod (h : P s) : P (startPeriod r s) := hP.run (.inr rfl) h

theorem Driving.period (h : P s) : P (periodExpiry r s) := by
  unfold periodExpiry; dsimp only; (repeat' split)
  · exact hP.startPeriod (hP.evaluate h)
  · exact hP.startPeriod (hP.evaluate h)
  · exact hP.startPeriod (hP.assertCeiling h)
  all_goals exact h

theorem Driving.writeManual (h : P s) : P (writeManual r s) := by
  unfold Machine.writeManual; split
  · exact h
  · next hl => exact hP.drive (r := r) rfl (.inr (.inr hl)) h

/-- R140: where a handover may end and its entry be completed, a channel may report. -/
theorem Driving.report (move : ∀ {s : State} {r : Fin 32}, P s → P (s.setReg r { s.reg r with state := .manual, handover := none }))
    (complete : ∀ {s : State} (ref : EntryRef) (code : RequestCode) (status : Status) (data : List Byte), P s →
      P (completeEntry ref code status data s)) {c : Fin 16} {faulted : Bool} (h : P s) : P (reportEntry c faulted s) := by
  unfold reportEntry
  split
  · exact h
  · next r _ =>
    split
    · have written : P (Machine.writeManual r (s.setReg r { s.reg r with state := .manual, handover := none })) := hP.writeManual (move h)
      unfold completeHandover
      dsimp only
      split
      · exact written
      · exact complete _ _ _ _ written
    · exact h

theorem Driving.participateChange {g : Regulator} {c : RegulatorConfig} (h : P s) : P (participateChange r g c s) := by
  unfold Machine.participateChange; (repeat' split)
  · exact hP.evaluate h
  · exact h
  · exact hP.assertCeiling h
  all_goals exact h

end

/-- The property reads of a regulator at most its configuration, that its manual level is a level, and that it is DISABLED; it admits the
writes of a desired level that the regulators make. -/
structure Steady (P : State → Prop) : Prop extends Tabular P where
  reg : ∀ {s : State} {r : Fin 32} {g : Regulator}, g.config = (s.reg r).config →
    (∀ l, g.manualLevel = some l → l ≤ 1000 ∨ (s.reg r).manualLevel = some l) → (g.state = .disabled → (s.reg r).state = .disabled) →
    P s → P (s.setReg r g)
  drive : ∀ {s : State} {r : Fin 32} {c : Fin 16} {l : Nat}, c = (s.reg r).config.actuator →
    (l ≤ (s.reg r).config.ceiling ∨ l ≤ (s.reg r).config.failsafe ∨ (s.reg r).manualLevel = some l) → P s → P (writeDesired c l s)

section
variable (hP : Steady P) {r : Fin 32}
include hP

/-- A write to a regulator's record that keeps its configuration, keeps its manual level or makes it absent, and does not disable it. -/
theorem Steady.move {g : Regulator} (h : P s) (hc : g.config = (s.reg r).config) (hd : g.state ≠ .disabled ∨ g.state = (s.reg r).state)
    (hm : g.manualLevel = none ∨ g.manualLevel = (s.reg r).manualLevel) : P (s.setReg r g) := by
  refine hP.reg hc (fun l hl => .inr ?_) (fun e => ?_) h
  · obtain hm | hm := hm
    · rw [hm] at hl; cases hl
    · rw [← hm, hl]
  · obtain hd | hd := hd
    · exact absurd e hd
    · exact hd ▸ e

theorem Steady.driving : Driving P where
  toIncidental := hP.toIncidental
  run hx h := hP.move h rfl hx (.inr rfl)
  drive := hP.drive

theorem Steady.report {c : Fin 16} {faulted : Bool} (h : P s) : P (reportEntry c faulted s) :=
  hP.driving.report (fun h => hP.move h rfl (.inl nofun) (.inr rfl)) (fun _ _ _ _ h => hP.completeEntry h) h

theorem Steady.manual {l : Nat} (hl : l ≤ 1000) (h : P s) : P (setManual r l s) :=
  hP.driving.writeManual (hP.reg rfl (by rintro _ ⟨⟩; exact .inl hl) id h)

theorem Steady.take {x : RegulatorState} {l : Nat} {ref : Option EntryRef} (hx : x ≠ .disabled) (hl : l ≤ 1000) (h : P s) :
    P (s.setReg r ((s.reg r).take x l ref)) := hP.reg rfl (by rintro _ ⟨⟩; exact .inl hl) (fun e => absurd e hx) h

theorem Steady.level {l : Nat} (hl : l ≤ 1000) (h : P s) : P (s.setReg r { s.reg r with manualLevel := some l }) :=
  hP.reg rfl (by rintro _ ⟨⟩; exact .inl hl) id h

end

theorem Tabular.cancelHandover (hP : Tabular P) {r : Fin 32} (h : P s) : P (cancelHandover r s) := by
  unfold Machine.cancelHandover; (repeat' split)
  · exact h
  · exact hP.completeEntry h
  · exact h

section
variable (hP : Steady P) {r : Fin 32}
include hP

theorem Steady.release (h : P s) : P (carryOutRelease r s) := by
  have released : P ((cancelHandover r s).setReg r ((cancelHandover r s).reg r).released) :=
    hP.move (hP.cancelHandover h) rfl (.inr rfl) (.inl rfl)
  exact hP.driving.startPeriod (hP.driving.resumeControl released)

/-- R89: the steps of an enable before its supervisor's. -/
theorem Steady.enable (h : P s) : P (Machine.startPeriod r (Machine.resumeControl r (s.setReg r (s.reg r).readied))) := by
  have readied : P (s.setReg r (s.reg r).readied) := hP.move h rfl (.inr rfl) (.inl rfl)
  exact hP.driving.startPeriod (hP.driving.resumeControl readied)

theorem Steady.restartRegulator (h : P s) : P (restartRegulator r s) := by
  unfold Machine.restartRegulator
  dsimp only
  have set : P (s.setReg r (s.reg r).restart) := by
    unfold Regulator.restart
    split
    · exact hP.move h rfl (.inl nofun) (.inr rfl)
    · exact hP.move h rfl (.inl nofun) (.inr rfl)
    · exact hP.move h rfl (.inr rfl) (.inl rfl)
    all_goals exact hP.move h rfl (.inr rfl) (.inl rfl)
  split
  · exact set
  · exact hP.driving.writeManual set
  · exact hP.driving.writeManual set
  all_goals exact hP.driving.startPeriod (hP.driving.evaluate set)

theorem Steady.restart (h : P (restartBlocks s)) : P (forEachRegulator Machine.restartRegulator (restartBlocks s)) :=
  forEachRegulator_keeps _ P (fun _ _ => hP.restartRegulator) h

end

/-! ## Channels and supervisors -/

/-- The property reads no supervisor, of the alert record at most the override part, and of a channel at most whether it is bound, while a
regulator needs that, and that its levels are levels. -/
structure Calm (P : State → Prop) : Prop extends Incidental P where
  chan : ∀ {s : State} {c : Fin 16} {k : Channel}, k.bound = (s.chan c).bound ∨ channelEngaged s c = false →
    k.desired = none ∨ k.desired = (s.chan c).desired →
    k.inFlight = none ∨ k.inFlight = (s.chan c).inFlight ∨ k.inFlight = (s.chan c).desired → P s → P (s.setChan c k)
  marks : ∀ {s : State}, P s → P (advanceTimebase s)
  sup : ∀ {s : State} (r : Fin 32) (x : Supervisor), P s → P (s.setSup r x)
  alert : ∀ {s : State} {u : NoteUnit}, u.alert.override = s.nu.alert.override → P s → P (s.withNu u)
  report : ∀ {s : State} (c : Fin 16) (faulted : Bool), P s → P (reportEntry c faulted s)

section
variable (hP : Calm P) {c : Fin 16} {r : Fin 32}
include hP

theorem Calm.tellFaulted {b : Bool} (h : P s) : P (tellFaulted c b s) := hP.alert rfl h

theorem Calm.tellStalled {b : Bool} (h : P s) : P (tellStalled r b s) := hP.alert rfl h

theorem Calm.startWindow (h : P s) : P (startWindow r s) := by
  unfold Machine.startWindow; dsimp only; split
  · exact hP.sup _ _ h
  · exact h

theorem Calm.armSupervisor (h : P s) : P (armSupervisor r s) := by
  unfold Machine.armSupervisor; split
  · exact hP.startWindow h
  · exact h

theorem Calm.enableSupervisor (h : P s) : P (enableSupervisor r s) := by
  unfold Machine.enableSupervisor; split
  · exact hP.armSupervisor h
  · exact h

theorem Calm.resetSupervisor (h : P s) : P (resetSupervisor r s) := hP.tellStalled (hP.sup _ _ h)

theorem Calm.ackedChanged {old : Option Nat} (h : P s) : P (ackedChanged c old s) := by
  unfold Machine.ackedChanged; (repeat' split)
  · exact h
  · exact hP.armSupervisor h
  · exact hP.sup _ _ h
  all_goals exact h

theorem Calm.feedback (i : Fin 256) (f : Int) (h : P s) : P (handFeedback i f s) := by
  refine forEachRegulator_keeps _ P (fun r u hu => ?_) h
  have stopped : P (Machine.stopWindow r u) := hP.sup _ _ hu
  unfold feedbackReading clearStall; dsimp only; (repeat' split)
  · exact hP.raise (hP.tellStalled (hP.sup _ _ stopped))
  · exact stopped
  · exact hP.startWindow hu
  all_goals exact hu

theorem Calm.wentStale (i : Fin 256) (h : P s) : P (handStaleness i s) := by
  refine forEachRegulator_keeps _ P (fun r u hu => ?_) h
  unfold feedbackWentStale; dsimp only; split
  · exact hP.startWindow hu
  · exact hu

theorem Calm.window (r : Fin 32) (h : P s) : P (windowExpiry r s) := by
  unfold windowExpiry; split
  · exact hP.raise (hP.tellStalled (hP.sup _ _ h))
  · exact h

/-- A write to a channel that keeps configuration and desired level; an exchange carries what it carried or the desired level. -/
theorem Calm.move {k : Channel} (h : P s) (hc : k.config = (s.chan c).config) (hd : k.desired = (s.chan c).desired)
    (hf : k.inFlight = none ∨ k.inFlight = (s.chan c).inFlight ∨ k.inFlight = (s.chan c).desired) : P (s.setChan c k) :=
  hP.chan (.inl (by simp [Channel.bound, hc])) (.inr hd) hf h

theorem Calm.sendChecked (c : Fin 16) (h : P s) : P (s.setChan c (s.chan c).sendCheck) := by
  unfold Channel.sendCheck; split
  · exact hP.move h rfl rfl (.inr (.inr rfl))
  · exact hP.move h rfl rfl (.inr (.inl rfl))

theorem Calm.enterFault {cause : Nat} (h : P s) : P (enterFault c cause s) :=
  hP.report _ _ (hP.tellFaulted (hP.raise (hP.move h rfl rfl (.inl rfl))))

theorem Calm.returnToFault (h : P s) : P (returnToFault c s) := hP.report _ _ (hP.move h rfl rfl (.inl rfl))

theorem Calm.ackOk {l : Nat} (h : P s) : P (ackOk c l s) := by
  have idle : P (Machine.ackedChanged c (s.chan c).acked (s.setChan c ((s.chan c).acknowledge l))) :=
    hP.ackedChanged (hP.move h rfl rfl (.inl rfl))
  unfold Machine.ackOk
  dsimp only
  split <;> split
  · exact hP.report _ _ (hP.sendChecked c (hP.tellFaulted (hP.raise idle)))
  · exact hP.report _ _ (hP.sendChecked c idle)
  · exact hP.report _ _ (hP.tellFaulted (hP.raise idle))
  · exact hP.report _ _ idle

theorem Calm.ackReject (h : P s) : P (ackReject c s) := by
  unfold Machine.ackReject; dsimp only; (repeat' split)
  · exact hP.enterFault h
  · exact hP.move h rfl rfl (.inl rfl)
  · exact hP.returnToFault h

theorem Calm.grantSet (port : ∀ {s : State} (x : ChainInterface), P s → P (s.withCi x)) (h : P s) : P (grantSet c s) := by
  have sent : P (s.setChan c { s.chan c with transmitting := true }) := hP.move h rfl rfl (.inr (.inl rfl))
  exact port _ (port _ sent)

theorem Calm.setDone (h : P s) : P (setDone c s) := by
  unfold Machine.setDone; dsimp only; split
  · exact hP.move (hP.signal h) rfl rfl (.inr (.inl rfl))
  · exact hP.signal h

theorem Calm.ack (c : Fin 16) (h : P s) : P (ackExpiry c s) := by
  unfold ackExpiry; dsimp only; (repeat' split)
  · exact hP.returnToFault h
  · exact hP.signal (hP.move h rfl rfl (.inr (.inl rfl)))
  · exact hP.enterFault h
  · exact h

theorem Calm.probe (c : Fin 16) (h : P s) : P (probeExpiry c s) := by
  unfold probeExpiry; dsimp only; split
  · exact hP.move h rfl rfl (.inr (.inr rfl))
  · exact h

/-- Settling a channel in IDLE leaves what writing its record leaves. -/
theorem Calm.settleIdleChannel {before after : Channel} (h : P (s.setChan c after)) : P (settleIdleChannel c before after s) := by
  have told : P (Machine.ackedChanged c before.acked (s.setChan c after)) := hP.ackedChanged h
  unfold Machine.settleIdleChannel
  dsimp only
  split <;> split
  · exact hP.report _ _ (hP.sendChecked c (hP.tellFaulted told))
  · exact hP.report _ _ (hP.sendChecked c told)
  · exact hP.sendChecked c (hP.tellFaulted told)
  · exact hP.sendChecked c told

theorem Calm.reset (c : Fin 16) (h : P s) : P (Machine.settleIdleChannel c (s.chan c) (s.chan c).abandon s) :=
  hP.settleIdleChannel (hP.move h rfl rfl (.inl rfl))

theorem Calm.bind {n : ChannelConfig} (he : channelEngaged s c = false) (h : P s) : P (carryOutBinding c n s) := by
  unfold carryOutBinding; dsimp only; (repeat' split)
  · exact hP.chan (.inr he) (.inr rfl) (.inr (.inl rfl)) h
  · exact hP.settleIdleChannel (hP.chan (.inr he) (.inl rfl) (.inr (.inl rfl)) h)
  · exact hP.chan (.inr he) (.inr rfl) (.inr (.inl rfl)) h

end

end Sys2Proof.Machine
end

section
/-! Every step keeps the law of the Point Table (O7), and keeps the levels of the channels levels (O10). -/

namespace Sys2Proof.Machine
open Sys2Proof.Claims

variable {s t : State} {i : Fin 256}

/-! ## The Point Table -/

theorem PointLaw.congr (h : PointLaw s) (e : ∀ i, t.point i = s.point i) : PointLaw t where
  keys i j p q hp hq := h.keys i j p q (e i ▸ hp) (e j ▸ hq)
  records i p hp := h.records i p (e i ▸ hp)

/-- R23, R34: a lawful record under a key that no other record holds. -/
theorem PointLaw.setPoint (h : PointLaw s) {q : Point} (hq : q.Lawful) (hk : keyTaken s i q.config.key = false) :
    PointLaw (s.setPoint i (some q)) := by
  have free : ∀ j p, j ≠ i → s.point j = some p → p.config.key ≠ q.config.key := fun j p hj hp e =>
    absurd (keyTaken_iff.2 ⟨j, p, hj, hp, e⟩) (by simp [hk])
  refine ⟨fun a b p p' hp hp' e => ?_, fun j p hp => ?_⟩
  · by_cases ha : a = i <;> by_cases hb : b = i
    · rw [ha, hb]
    · rw [ha, State.setPoint_self] at hp
      rw [State.setPoint_ne _ _ hb] at hp'
      cases hp
      exact absurd e.symm (free b p' hb hp')
    · rw [hb, State.setPoint_self] at hp'
      rw [State.setPoint_ne _ _ ha] at hp
      cases hp'
      exact absurd e (free a p ha hp)
    · rw [State.setPoint_ne _ _ ha] at hp
      rw [State.setPoint_ne _ _ hb] at hp'
      exact h.keys a b p p' hp hp' e
  · by_cases hj : j = i
    · rw [hj, State.setPoint_self] at hp
      cases hp
      exact hq
    · rw [State.setPoint_ne _ _ hj] at hp
      exact h.records j p hp

/-- No other record holds the key of an occupied one. -/
theorem PointLaw.keyFree (h : PointLaw s) {p : Point} (hp : s.point i = some p) : keyTaken s i p.config.key = false := by
  rw [Bool.eq_false_iff]
  intro e
  obtain ⟨j, q, hj, hq, hk⟩ := keyTaken_iff.1 e
  exact hj (h.keys j i q p hq hp hk)

theorem PointLaw.setPoint_none (h : PointLaw s) : PointLaw (s.setPoint i none) := by
  have kept {j : Fin 256} {p : Point} (hp : (s.setPoint i none).point j = some p) : s.point j = some p := by
    by_cases hj : j = i
    · rw [hj, State.setPoint_self] at hp; cases hp
    · rwa [State.setPoint_ne _ _ hj] at hp
  exact ⟨fun a b p q hp hq => h.keys a b p q (kept hp) (kept hq), fun j p hp => h.records j p (kept hp)⟩

theorem tabular_pointLaw : Tabular PointLaw where
  desk _ h := h.congr fun _ => rfl
  notes _ h := h.congr fun _ => rfl
  counters _ h := h.congr fun _ => rfl
  sweep _ h := h.congr fun _ => rfl
  turns _ h := h.congr fun _ => rfl
  queue _ h := h.congr fun _ => rfl
  chain _ h := h.congr fun _ => rfl

theorem steady_pointLaw : Steady PointLaw where
  toTabular := tabular_pointLaw
  reg _ _ _ h := h.congr fun _ => rfl
  drive _ _ h := h.congr fun _ => rfl

theorem calm_pointLaw : Calm PointLaw where
  toIncidental := tabular_pointLaw.toIncidental
  chan _ _ _ h := h.congr fun _ => rfl
  marks h := h.congr fun _ => rfl
  sup _ _ h := h.congr fun _ => rfl
  alert _ h := h.congr fun _ => rfl
  report _ _ h := steady_pointLaw.report h

theorem apart_pointLaw : Apart PointLaw where
  toIncidental := tabular_pointLaw.toIncidental
  om _ h := h.congr fun _ => rfl
  told _ h := h.congr fun _ => rfl
  point hp hc hl h := h.setPoint (hl (h.records _ _ hp)) (hc ▸ h.keyFree hp)
  feedback := calm_pointLaw.feedback
  wentStale := calm_pointLaw.wentStale
  entry _ _ h := steady_pointLaw.driving.entry h
  clearing _ _ h := steady_pointLaw.driving.clearing h

/-- R30: the staleness timer after a write with the same key. -/
theorem Point.Lawful.rewritten {p : Point} (h : p.Lawful) {c : PointConfig} (hc : c.InRange) (now : Time) : (p.rewritten c now).Lawful :=
  { h with
    config := hc
    timer := by
      have held := h.timer
      show (timerAfterWrite p c now).isSome ↔ c.maxAge.isSome ∧ p.runtime.band ≠ .stale
      unfold timerAfterWrite
      split
      · next e => rw [e]; exact held
      · split
        · next e => simp [Option.isNone_iff_eq_none.1 e]
        · split
          · next e => simpa [e] using held
          · next e => simp [staleTimerFrom_isSome, e] }

/-- R34 to R37: the three records a write leaves. -/
theorem PointLaw.carryOutWrite {c : PointConfig} (hc : c.InRange) (hk : keyTaken s i c.key = false) (h : PointLaw s) :
    PointLaw (carryOutWrite i c s) := by
  have occupied : (Point.occupied c s.timebase).Lawful := .anew hc rfl rfl rfl (Nat.zero_le _) rfl rfl nofun
  have rekeyed (p : Point) : (p.rekeyed c s.timebase).Lawful := .anew hc rfl rfl rfl (Nat.zero_le _) rfl rfl rearm_untripped
  unfold Machine.carryOutWrite
  split
  · exact h.setPoint occupied hk
  · next p hp =>
    have rewritten : PointLaw (s.setPoint i (some (p.rewritten c s.timebase))) := h.setPoint ((h.records i p hp).rewritten hc _) hk
    split
    · dsimp only
      split
      · exact rewritten
      · exact apart_pointLaw.leaveCritical _ rewritten
    · exact apart_pointLaw.leaveCritical _ (h.setPoint (rekeyed p) hk)

/-- R43: the records at RESTART keep their keys and start anew. -/
theorem PointLaw.restartBlocks (h : PointLaw s) : PointLaw (restartBlocks s) := by
  have was {j : Fin 256} {q : Point} (hq : (Machine.restartBlocks s).point j = some q) :
      ∃ p, s.point j = some p ∧ q = p.restart s.timebase := by
    rw [restartBlocks_point] at hq
    obtain ⟨p, hp, rfl⟩ := Option.map_eq_some_iff.1 hq
    exact ⟨p, hp, rfl⟩
  refine ⟨fun a b p q hp hq e => ?_, fun j q hq => ?_⟩
  · obtain ⟨p', hp', rfl⟩ := was hp
    obtain ⟨q', hq', rfl⟩ := was hq
    exact h.keys a b p' q' hp' hq' e
  · obtain ⟨p, hp, rfl⟩ := was hq
    exact .anew (h.records j p hp).config rfl rfl rfl (Nat.zero_le _) rfl rfl rearm_untripped

theorem upheld_pointLaw : Upheld PointLaw where
  toTabular := tabular_pointLaw
  reading := apart_pointLaw.reporting.reading
  ackOk _ _ h := calm_pointLaw.ackOk h
  ackReject _ h := calm_pointLaw.ackReject h
  grantSet _ _ h := calm_pointLaw.grantSet (fun _ h => h.congr fun _ => rfl) h
  setDone _ h := calm_pointLaw.setDone (h.congr fun _ => rfl)
  advance h := calm_pointLaw.marks h
  staleness := apart_pointLaw.reporting.staleness
  period _ h := steady_pointLaw.driving.period h
  hold h := apart_pointLaw.hold h
  window := calm_pointLaw.window
  ack := calm_pointLaw.ack
  probe := calm_pointLaw.probe
  visit := apart_pointLaw.reporting.visit
  restart h := steady_pointLaw.restart h.restartBlocks
  clear _ := .of_empty (by simp [clearBlocks, State.point])
  cold a := (cold_inv a).points
  holdTime _ h := apart_pointLaw.om _ h
  write hc hk _ h := h.carryOutWrite hc hk
  delete _ h := apart_pointLaw.leaveCritical _ h.setPoint_none
  watch := apart_pointLaw.reporting.watch
  configure _ _ _ _ h := steady_pointLaw.driving.participateChange (h.congr fun _ => rfl)
  curve _ _ _ h := h.congr fun _ => rfl
  enable _ h := calm_pointLaw.enableSupervisor (steady_pointLaw.enable h)
  disable r h := calm_pointLaw.resetSupervisor (PointLaw.congr (tabular_pointLaw.cancelHandover h) fun _ => rfl)
  manual hl _ h := steady_pointLaw.manual hl h
  taken hl _ h := steady_pointLaw.driving.writeManual (steady_pointLaw.take nofun hl h)
  handover _ hl _ h := steady_pointLaw.take nofun hl h
  level hl _ h := steady_pointLaw.level hl h
  release _ h := steady_pointLaw.release h
  bind _ he _ _ h := calm_pointLaw.bind he h
  reset := calm_pointLaw.reset

/-- Settles O7: each record is written lawful and under its own key or a free one. -/
theorem pointLawIsKept : Obligations.PointLawIsKept := fun _ _ h ht => upheld_pointLaw.step h ht

/-! ## Levels (section 2.1 of the conventions) -/

/-- What a regulator writes to its channel is a level: its ceiling, its failsafe level and its manual level are. -/
structure Regulator.WritesLevels (g : Regulator) : Prop where
  ceiling : g.config.ceiling ≤ 1000
  failsafe : g.config.failsafe ≤ 1000
  manual : ∀ l, g.manualLevel = some l → l ≤ 1000

/-- The levels of the channels, and of what the regulators write to them. -/
structure AllLevels (s : State) : Prop where
  levels : LevelLaw s
  regulators : ∀ r, (s.reg r).WritesLevels

theorem Regulator.Lawful.writesLevels {g : Regulator} (h : g.Lawful) : g.WritesLevels where
  ceiling := h.ranges.ceiling.2
  failsafe := h.ranges.failsafe.trans h.ranges.ceiling.2
  manual := h.ranges.manual

theorem AllLevels.of_law (h : RegulatorLaw s) (hl : LevelLaw s) : AllLevels s := ⟨hl, fun r => (h.records r).writesLevels⟩

theorem AllLevels.congr (h : AllLevels s) (hr : ∀ r, t.reg r = s.reg r) (hc : ∀ c, t.chan c = s.chan c) : AllLevels t where
  levels c := hc c ▸ h.levels c
  regulators r := hr r ▸ h.regulators r

theorem AllLevels.setReg (h : AllLevels s) {r : Fin 32} {g : Regulator} (hg : g.WritesLevels) : AllLevels (s.setReg r g) where
  levels := h.levels
  regulators q := by
    by_cases hq : q = r
    · rw [hq, State.setReg_self]; exact hg
    · rw [State.setReg_ne _ _ hq]; exact h.regulators q

theorem AllLevels.setChan (h : AllLevels s) {c : Fin 16} {k : Channel} (hd : ∀ l, k.desired = some l → l ≤ 1000)
    (hf : ∀ l, k.inFlight = some l → l ≤ 1000) : AllLevels (s.setChan c k) where
  levels d := by
    by_cases hd' : d = c
    · rw [hd', State.setChan_self]; exact ⟨hd, hf⟩
    · rw [State.setChan_ne _ _ hd']; exact h.levels d
  regulators := h.regulators

/-- A desired-level write puts its level, or what was there, in both places. -/
theorem writeDesired_levels (k : Channel) (l : Nat) :
    (k.writeDesired l).desired = some l ∧ ((k.writeDesired l).inFlight = some l ∨ (k.writeDesired l).inFlight = k.inFlight) := by
  unfold Channel.writeDesired Channel.sendCheck Channel.markOpened
  split
  · split <;> split <;> simp [Channel.openExchange]
  · exact ⟨rfl, .inr rfl⟩

theorem tabular_allLevels : Tabular AllLevels where
  desk _ h := h.congr (fun _ => rfl) fun _ => rfl
  notes _ h := h.congr (fun _ => rfl) fun _ => rfl
  counters _ h := h.congr (fun _ => rfl) fun _ => rfl
  sweep _ h := h.congr (fun _ => rfl) fun _ => rfl
  turns _ h := h.congr (fun _ => rfl) fun _ => rfl
  queue _ h := h.congr (fun _ => rfl) fun _ => rfl
  chain _ h := h.congr (fun _ => rfl) fun _ => rfl

theorem steady_allLevels : Steady AllLevels where
  toTabular := tabular_allLevels
  reg {s r g} hc hm _ h := h.setReg {
    ceiling := hc ▸ (h.regulators r).ceiling
    failsafe := hc ▸ (h.regulators r).failsafe
    manual := fun l hl => (hm l hl).elim id ((h.regulators r).manual l) }
  drive {s r c l} _ hl h := by
    obtain ⟨ceiling, failsafe, manual⟩ := h.regulators r
    have bound : l ≤ 1000 := by
      obtain hl | hl | hl := hl
      · omega
      · omega
      · exact manual l hl
    obtain ⟨desired, carried⟩ := writeDesired_levels (s.chan c) l
    refine h.setChan (fun x hx => ?_) fun x hx => ?_
    · rw [desired] at hx; cases hx; exact bound
    · obtain e | e := carried
      · rw [e] at hx; cases hx; exact bound
      · rw [e] at hx; exact (h.levels c).2 x hx

theorem calm_allLevels : Calm AllLevels where
  toIncidental := tabular_allLevels.toIncidental
  chan {s c k} _ hd hf h := by
    refine h.setChan (fun x hx => ?_) fun x hx => ?_
    · obtain e | e := hd <;> rw [e] at hx
      · cases hx
      · exact (h.levels c).1 x hx
    · obtain e | e | e := hf <;> rw [e] at hx
      · cases hx
      · exact (h.levels c).2 x hx
      · exact (h.levels c).1 x hx
  marks {s} h := {
    levels := fun c => by rw [advanceTimebase_chan]; exact h.levels c
    regulators := h.regulators }
  sup _ _ h := h.congr (fun _ => rfl) fun _ => rfl
  alert _ h := h.congr (fun _ => rfl) fun _ => rfl
  report _ _ h := steady_allLevels.report h

theorem apart_allLevels : Apart AllLevels where
  toIncidental := tabular_allLevels.toIncidental
  om _ h := h.congr (fun _ => rfl) fun _ => rfl
  told _ h := h.congr (fun _ => rfl) fun _ => rfl
  point _ _ _ h := h.congr (fun _ => rfl) fun _ => rfl
  feedback := calm_allLevels.feedback
  wentStale := calm_allLevels.wentStale
  entry _ _ h := steady_allLevels.driving.entry h
  clearing _ _ h := steady_allLevels.driving.clearing h

/-- A property that does not read the points is kept by any write to one. -/
theorem Apart.write {P : State → Prop} (hP : Apart P) (points : ∀ {s : State} {i : Fin 256} (p : Option Point), P s → P (s.setPoint i p))
    {c : PointConfig} (h : P s) : P (carryOutWrite i c s) := by
  unfold carryOutWrite; dsimp only; (repeat' split)
  · exact points _ h
  · exact points _ h
  · exact hP.leaveCritical _ (points _ h)
  · exact hP.leaveCritical _ (points _ h)

theorem AllLevels.restartBlocks (h : AllLevels s) : AllLevels (restartBlocks s) where
  levels c := by
    rw [restartBlocks_chan]
    exact ⟨(h.levels c).1, nofun⟩
  regulators := h.regulators

theorem AllLevels.of_default (hr : ∀ r, s.reg r = Regulator.default) (hc : ∀ c, s.chan c = Channel.default) : AllLevels s where
  levels := .of_default hc
  regulators r := by rw [hr r]; exact regulator_default_lawful.writesLevels

theorem upheld_allLevels : Upheld AllLevels where
  toTabular := tabular_allLevels
  reading := apart_allLevels.reporting.reading
  ackOk _ _ h := calm_allLevels.ackOk h
  ackReject _ h := calm_allLevels.ackReject h
  grantSet _ _ h := calm_allLevels.grantSet (fun _ h => h.congr (fun _ => rfl) fun _ => rfl) h
  setDone _ h := calm_allLevels.setDone (h.congr (fun _ => rfl) fun _ => rfl)
  advance h := calm_allLevels.marks h
  staleness := apart_allLevels.reporting.staleness
  period _ h := steady_allLevels.driving.period h
  hold h := apart_allLevels.hold h
  window := calm_allLevels.window
  ack := calm_allLevels.ack
  probe := calm_allLevels.probe
  visit := apart_allLevels.reporting.visit
  restart h := steady_allLevels.restart h.restartBlocks
  clear _ := .of_default (by simp [clearBlocks, State.reg]) (by simp [clearBlocks, State.chan])
  cold a := .of_default (State.cold_reg a) (State.cold_chan a)
  holdTime _ h := apart_allLevels.om _ h
  write _ _ _ h := apart_allLevels.write (fun _ h => h.congr (fun _ => rfl) fun _ => rfl) h
  delete _ h := apart_allLevels.leaveCritical _ (AllLevels.congr h (fun _ => rfl) fun _ => rfl)
  watch := apart_allLevels.reporting.watch
  configure {s r c} hc _ _ _ h := steady_allLevels.driving.participateChange (h.setReg {
    ceiling := hc.ceiling.2
    failsafe := hc.failsafe.trans hc.ceiling.2
    manual := (h.regulators r).manual })
  curve r _ _ h := h.setReg { h.regulators r with }
  enable _ h := calm_allLevels.enableSupervisor (steady_allLevels.enable h)
  disable r h := calm_allLevels.resetSupervisor (by
    have cancelled := tabular_allLevels.cancelHandover (r := r) h
    exact cancelled.setReg { cancelled.regulators r with manual := nofun })
  manual hl _ h := steady_allLevels.manual hl h
  taken hl _ h := steady_allLevels.driving.writeManual (steady_allLevels.take nofun hl h)
  handover _ hl _ h := steady_allLevels.take nofun hl h
  level hl _ h := steady_allLevels.level hl h
  release _ h := steady_allLevels.release h
  bind _ he _ _ h := calm_allLevels.bind he h
  reset := calm_allLevels.reset

/-- Settles O10: the levels the regulators hold are kept levels, and only those are written to channels. -/
theorem levelLawIsKept : Obligations.LevelLawIsKept :=
  fun _ _ hr h ht => (upheld_allLevels.step (.of_law hr h) ht).levels

end Sys2Proof.Machine
end

section
/-! Every step keeps the law of the Regulator Table (O8). -/

namespace Sys2Proof.Machine
open Sys2Proof.Claims

variable {s t : State} {r : Fin 32} {g : Regulator} {x : RegulatorState} {l : Nat}

/-! ## Records -/

/-- A record that may come under control: configured, with a curve, and out of manual control. -/
structure Regulator.Ready (g : Regulator) : Prop where
  ranges : g.InRange
  manual : g.manualLevel = none
  handover : g.handover = none
  enabled : g.configured = true ∧ 2 ≤ g.curve.length

theorem Regulator.Lawful.ready (h : g.Lawful) (hs : g.state.controlling = true) : g.Ready := by
  have apart : g.state ≠ .manual ∧ g.state ≠ .handover ∧ g.state ≠ .disabled :=
    ⟨fun e => by simp [e, RegulatorState.controlling] at hs, fun e => by simp [e, RegulatorState.controlling] at hs,
      fun e => by simp [e, RegulatorState.controlling] at hs⟩
  obtain ⟨manual, handover, disabled⟩ := apart
  obtain ⟨noManual, noHandover, -⟩ := h.absent
  exact ⟨h.ranges, noManual manual handover, noHandover handover, h.enabled disabled⟩

/-- Section 4.2: a ready record under control, with an output within its ceiling and failsafe level, and its period timer running. -/
theorem Regulator.Ready.steered (h : g.Ready) {b : Bool} {timer : Option Time} (hx : x.controlling = true)
    (hl : l ≤ max g.config.ceiling g.config.failsafe) (ht : timer.isSome = true) :
    ({ g with state := x, output := some l, offLatched := b, periodTimer := timer } : Regulator).Lawful := by
  have apart : x ≠ .manual ∧ x ≠ .handover := by cases x <;> simp_all [RegulatorState.controlling]
  obtain ⟨manual, handover⟩ := apart
  have bound : max g.config.ceiling g.config.failsafe ≤ 1000 :=
    Nat.max_le.2 ⟨h.ranges.ceiling.2, h.ranges.failsafe.trans h.ranges.ceiling.2⟩
  exact {
    ranges := { h.ranges with output := by rintro _ ⟨⟩; exact hl.trans bound }
    manual := by simp [h.manual, manual, handover]
    handover := by simp [h.handover, handover]
    timer := by simp [hx, ht]
    output := fun _ => rfl
    enabled := fun _ => h.enabled }

/-- Section 7.1: a record in manual control. -/
theorem Regulator.Lawful.manually (h : g.Lawful) {ref : Option EntryRef} (hd : g.state ≠ .disabled) (hx : x = .manual ∨ x = .handover)
    (hr : ref.isSome ↔ x = .handover) (hl : l ≤ 1000) {b : Bool} :
    ({ g with state := x, manualLevel := some l, handover := ref, periodTimer := none, offLatched := b } : Regulator).Lawful := by
  have apart : x.controlling = false := by obtain rfl | rfl := hx <;> rfl
  exact {
    ranges := { h.ranges with manual := by rintro _ ⟨⟩; exact hl }
    manual := by simp [hx]
    handover := hr
    timer := by simp [apart]
    output := fun e => by simp [apart] at e
    enabled := fun _ => h.enabled hd }

/-- R90: a disabled record. -/
theorem Regulator.Lawful.disabled (h : g.Lawful) {b : Bool} :
    ({ g with state := .disabled, manualLevel := none, handover := none, periodTimer := none, offLatched := b } : Regulator).Lawful where
  ranges := { h.ranges with manual := nofun }
  manual := by simp
  handover := by simp
  timer := by simp [RegulatorState.controlling]
  output e := by simp [RegulatorState.controlling] at e
  enabled e := absurd rfl e

/-- In MANUAL and HANDOVER the record holds its manual level, and no timer. -/
theorem Regulator.Lawful.held (h : g.Lawful) (hs : g.state = .manual ∨ g.state = .handover) :
    g.periodTimer = none ∧ ∃ l, g.manualLevel = some l ∧ l ≤ 1000 := by
  obtain ⟨l, hl⟩ := Option.isSome_iff_exists.1 (h.manual.2 hs)
  refine ⟨h.absent.2.2 ?_, l, hl, h.ranges.manual l hl⟩
  obtain e | e := hs <;> simp [e, RegulatorState.controlling]

/-! ## The table -/

/-- One record changes, under the same configuration; no point and no binding does. -/
theorem RegulatorLaw.replace (h : RegulatorLaw s) (hg : g.Lawful) (hc : g.config = (s.reg r).config)
    (hb : g.state ≠ .disabled → (s.chan g.config.actuator).bound = true) (hr : ∀ q, t.reg q = (s.setReg r g).reg q)
    (hp : ∀ i, t.point i = s.point i) (hk : ∀ c, (t.chan c).bound = (s.chan c).bound) : RegulatorLaw t := by
  have config (q : Fin 32) : (t.reg q).config = (s.reg q).config := by
    rw [hr, State.setReg_read]; split
    · next e => rw [e, hc]
    · rfl
  have feeds (q : Fin 32) (i : Fin 256) : (t.reg q).feedsBack i = (s.reg q).feedsBack i := by
    simp only [Regulator.feedsBack, Regulator.configured, config]
  have names (q : Fin 32) (c : Fin 16) : (t.reg q).namesChannel c = (s.reg q).namesChannel c := by
    simp only [Regulator.namesChannel, Regulator.configured, config]
  refine ⟨fun q => ?_, fun q i hi => ?_, fun q i hi => ?_, fun q q' c hq hq' => ?_, fun q hs => ?_⟩
  · rw [hr, State.setReg_read]; split
    · exact hg
    · exact h.records q
  · rw [config] at hi; rw [hp]; exact h.inputs q i hi
  · rw [feeds] at hi; rw [hp]; exact h.feedback q i hi
  · rw [names] at hq hq'; exact h.channels q q' c hq hq'
  · rw [hk]
    rw [hr, State.setReg_read] at hs ⊢
    split
    · next e => rw [if_pos e] at hs; exact hb hs
    · next e => rw [if_neg e] at hs; exact h.bound q hs

/-- A record is written under the same configuration. -/
theorem RegulatorLaw.setReg (h : RegulatorLaw s) (hg : g.Lawful) (hc : g.config = (s.reg r).config)
    (hd : (s.reg r).state ≠ .disabled ∨ g.state = .disabled) : RegulatorLaw (s.setReg r g) := by
  refine h.replace hg hc (fun e => ?_) (fun _ => rfl) (fun _ => rfl) fun _ => rfl
  rw [hc]
  exact h.bound r (hd.resolve_right e)

theorem writeDesired_bound (c : Fin 16) (l : Nat) (s : State) (d : Fin 16) : ((writeDesired c l s).chan d).bound = (s.chan d).bound := by
  simp [Channel.bound]

theorem RegulatorLaw.writeManual (h : RegulatorLaw s) (r : Fin 32) : RegulatorLaw (writeManual r s) :=
  h.congr (fun _ => by simp) (fun _ => by simp) fun _ => by simp

theorem Steers.bound (st : Steers r x l s t) (c : Fin 16) : (t.chan c).bound = (s.chan c).bound := by
  rw [st.chans, writeDesired_bound]

/-- R72, R80: a regulator under control stays under control. -/
theorem RegulatorLaw.steer (h : RegulatorLaw s) (hs : (s.reg r).state.controlling = true) (st : Steers r x l s t)
    (hp : ∀ i, t.point i = s.point i) : RegulatorLaw t := by
  obtain ⟨b, hb⟩ := st.regs
  have record := h.records r
  have enabled : (s.reg r).state ≠ .disabled := fun e => by simp [e, RegulatorState.controlling] at hs
  exact h.replace ((record.ready hs).steered st.controls st.level (record.timer.2 hs)) rfl (fun _ => h.bound r enabled) hb hp st.bound

/-- R89, R144: a ready regulator with a bound channel comes under control, and its period timer is started. -/
theorem RegulatorLaw.begin (h : RegulatorLaw s) (hg : g.Ready) (hc : g.config = (s.reg r).config)
    (hb : (s.chan g.config.actuator).bound = true) (st : Steers r x l (s.setReg r g) t) (hp : ∀ i, t.point i = s.point i) :
    RegulatorLaw (startPeriod r t) := by
  obtain ⟨b, regs⟩ := st.regs
  have level := st.level
  rw [State.setReg_self] at regs level
  have record : (t.reg r) = { g with state := x, output := some l, offLatched := b } := by rw [regs, State.setReg_self]
  refine h.replace (hg.steered (b := b) st.controls level (timer := t.startTimer (hundredMs (t.reg r).config.period)) rfl) hc
    (fun _ => hb) (fun q => ?_) (fun i => by simp [hp]) fun c => by rw [startPeriod_chan]; exact st.bound c
  unfold startPeriod
  by_cases hq : q = r
  · rw [hq, State.setReg_self, State.setReg_self, record]
  · rw [State.setReg_ne _ _ hq, State.setReg_ne _ _ hq, regs, State.setReg_ne _ _ hq, State.setReg_ne _ _ hq]

theorem RegulatorLaw.startPeriod (h : RegulatorLaw s) (hs : (s.reg r).state.controlling = true) : RegulatorLaw (startPeriod r s) :=
  h.setReg { h.records r with
    ranges := { (h.records r).ranges with }
    timer := by simp [hs, State.startTimer] } rfl (.inl fun e => by simp [e, RegulatorState.controlling] at hs)

theorem RegulatorLaw.evaluate {notes : Bool} (h : RegulatorLaw s) (hs : (s.reg r).state.controlling = true) :
    RegulatorLaw (evaluate notes r s) := by
  obtain ⟨x, l, -, st⟩ := evaluate_steers notes r s
  exact h.steer hs st fun _ => by simp

theorem RegulatorLaw.assertCeiling (h : RegulatorLaw s) (hs : (s.reg r).state.controlling = true) : RegulatorLaw (assertCeiling r s) :=
  h.steer hs (assertCeiling_steers r s) fun _ => by simp

theorem Steers.controlling (st : Steers r x l s t) : (t.reg r).state.controlling = true := by
  obtain ⟨b, hb⟩ := st.regs
  rw [hb, State.setReg_self]
  exact st.controls

/-- R67: a record is written to a point, of kind SPEED if it is a feedback point. -/
theorem RegulatorLaw.setPoint (h : RegulatorLaw s) {i : Fin 256} {p : Point} (hk : feedbackNamed s i = true → p.config.kind = .speed) :
    RegulatorLaw (s.setPoint i (some p)) where
  records := h.records
  inputs q j hj := by
    rw [State.setPoint_read]; split
    · rfl
    · exact h.inputs q j hj
  feedback q j hj := by
    rw [State.setPoint_read]; split
    · next e =>
      subst e
      exact ⟨p, rfl, hk (List.any_eq_true.2 ⟨q, List.mem_finRange _, hj⟩)⟩
    · exact h.feedback q j hj
  channels := h.channels
  bound := h.bound

/-- R40: a point that no regulator names is deleted. -/
theorem RegulatorLaw.deletePoint (h : RegulatorLaw s) {i : Fin 256} (hn : pointNamed s i = false) : RegulatorLaw (s.setPoint i none) := by
  have unnamed (q : Fin 32) : (s.reg q).namesPoint i = false := by
    rw [pointNamed, List.any_eq_false] at hn
    simpa using hn q (List.mem_finRange _)
  have unread (q : Fin 32) : i ∉ (s.reg q).config.inputs ∧ (s.reg q).feedsBack i = false := by
    simpa [Regulator.namesPoint] using unnamed q
  refine ⟨h.records, fun q j hj => ?_, fun q j hj => ?_, h.channels, h.bound⟩
  · have ne : j ≠ i := fun e => (unread q).1 (e ▸ hj)
    rw [State.setPoint_ne _ _ ne]; exact h.inputs q j hj
  · have ne : j ≠ i := fun e => by rw [e] at hj; exact absurd hj (by rw [State.setPoint_reg, (unread q).2]; simp)
    rw [State.setPoint_ne _ _ ne]; exact h.feedback q j hj

/-- R68: a channel is written that stays as bound as it was, or that no enabled regulator names. -/
theorem RegulatorLaw.setChan (h : RegulatorLaw s) {c : Fin 16} {k : Channel}
    (hk : k.bound = (s.chan c).bound ∨ channelEngaged s c = false) : RegulatorLaw (s.setChan c k) where
  records := h.records
  inputs := h.inputs
  feedback := h.feedback
  channels := h.channels
  bound q hs := by
    rw [State.setChan_reg] at hs ⊢
    rw [State.setChan_read]; split
    · next e =>
      obtain hk | hk := hk
      · rw [hk, ← e]; exact h.bound q hs
      · have engaged := channelEngaged_iff.2 ⟨q, hs, by simpa [Regulator.configured] using ((h.records q).enabled hs).1, e⟩
        rw [hk] at engaged; cases engaged
    · exact h.bound q hs

/-! ## Operations -/

theorem tabular_regulatorLaw : Tabular RegulatorLaw where
  desk _ h := h.congr (fun _ => rfl) (fun _ => rfl) fun _ => rfl
  notes _ h := h.congr (fun _ => rfl) (fun _ => rfl) fun _ => rfl
  counters _ h := h.congr (fun _ => rfl) (fun _ => rfl) fun _ => rfl
  sweep _ h := h.congr (fun _ => rfl) (fun _ => rfl) fun _ => rfl
  turns _ h := h.congr (fun _ => rfl) (fun _ => rfl) fun _ => rfl
  queue _ h := h.congr (fun _ => rfl) (fun _ => rfl) fun _ => rfl
  chain _ h := h.congr (fun _ => rfl) (fun _ => rfl) fun _ => rfl

/-- R140: the regulator in HANDOVER whose channel reports goes to MANUAL. -/
theorem RegulatorLaw.report {c : Fin 16} {faulted : Bool} (h : RegulatorLaw s) : RegulatorLaw (reportEntry c faulted s) := by
  unfold reportEntry
  split
  · exact h
  · next r _ =>
    split
    · next hs =>
      have record := h.records r
      obtain ⟨timer, l, hl, bound⟩ := record.held (.inr hs)
      have enabled : (s.reg r).state ≠ .disabled := by rw [hs]; decide
      have manual : ({ s.reg r with state := .manual, handover := none } : Regulator).Lawful := by
        simpa [hl, timer] using record.manually (ref := none) (b := (s.reg r).offLatched) enabled (.inl rfl) (by simp) bound
      have written := (h.setReg manual rfl (.inl enabled)).writeManual r
      unfold completeHandover
      dsimp only
      split
      · exact written
      · exact tabular_regulatorLaw.completeEntry written
    · exact h

theorem calm_regulatorLaw : Calm RegulatorLaw where
  toIncidental := tabular_regulatorLaw.toIncidental
  chan hk _ _ h := h.setChan hk
  marks h := h.congr (fun _ => rfl) (fun _ => rfl) fun _ => by simp
  sup _ _ h := h.congr (fun _ => rfl) (fun _ => rfl) fun _ => rfl
  alert _ h := h.congr (fun _ => rfl) (fun _ => rfl) fun _ => rfl
  report _ _ h := h.report

theorem apart_regulatorLaw : Apart RegulatorLaw where
  toIncidental := tabular_regulatorLaw.toIncidental
  om _ h := h.congr (fun _ => rfl) (fun _ => rfl) fun _ => rfl
  told _ h := h.congr (fun _ => rfl) (fun _ => rfl) fun _ => rfl
  point {s i p q} hp hc _ h := h.setPoint fun hn => by
    obtain ⟨r, hi, hf⟩ := feedbackNamed_iff.1 hn
    obtain ⟨p', hp', hk⟩ := h.feedback r i (by simpa [Regulator.feedsBack, Regulator.configured, hf] using hi)
    rw [hp] at hp'
    cases hp'
    rw [hc, hk]
  feedback := calm_regulatorLaw.feedback
  wentStale := calm_regulatorLaw.wentStale
  entry r s h := by
    unfold entryNotice
    dsimp only
    split
    · next hs =>
      simp only [Bool.and_eq_true, Bool.or_eq_true, decide_eq_true_eq] at hs
      obtain ⟨hs | hs, -⟩ := hs <;> exact h.assertCeiling (by rw [hs]; rfl)
    · exact h
  clearing r s h := by
    unfold clearingNotice
    split
    · next hs => exact h.evaluate (by rw [hs]; rfl)
    · exact h

/-- R71: a period expiry acts on a regulator under control. -/
theorem RegulatorLaw.period (r : Fin 32) (h : RegulatorLaw s) : RegulatorLaw (periodExpiry r s) := by
  have evaluated (hs : (s.reg r).state.controlling = true) : RegulatorLaw (Machine.startPeriod r (Machine.evaluate true r s)) := by
    obtain ⟨x, l, -, st⟩ := evaluate_steers true r s
    exact (h.evaluate hs).startPeriod st.controlling
  unfold periodExpiry
  dsimp only
  (repeat' split)
  · next hs => exact evaluated (by rw [hs]; rfl)
  · next hs => exact evaluated (by rw [hs]; rfl)
  · next hs => exact (h.assertCeiling (by rw [hs]; rfl)).startPeriod (assertCeiling_steers r s).controlling
  all_goals exact h

/-- R34 to R37: a feedback point is written with kind SPEED only. -/
theorem RegulatorLaw.carryOutWrite {i : Fin 256} {c : PointConfig} (hk : feedbackNamed s i = true → c.kind = .speed) (h : RegulatorLaw s) :
    RegulatorLaw (carryOutWrite i c s) := by
  unfold Machine.carryOutWrite
  dsimp only
  (repeat' split)
  · exact h.setPoint hk
  · exact h.setPoint hk
  · exact apart_regulatorLaw.leaveCritical _ (h.setPoint hk)
  · exact apart_regulatorLaw.leaveCritical _ (h.setPoint hk)

/-- R84: the stages of a WRITE_REGULATOR are what the law asks of the new configuration. -/
theorem RegulatorLaw.setConfig (h : RegulatorLaw s) {c : RegulatorConfig} (hc : c.InRange) (hp : pointsUsable s c = true)
    (hs : (s.reg r).state = .disabled ∨ structuralChange (s.reg r).config c = false) (hf : channelTaken s r c.actuator = false) :
    RegulatorLaw (s.setReg r { s.reg r with config := c }) := by
  obtain ⟨occupied, speed⟩ := (pointsUsable_iff s c).1 hp
  have record := h.records r
  have inputs : c.inputs ≠ [] := List.ne_nil_of_length_pos hc.inputs.1
  have free {q : Fin 32} (hq : q ≠ r) (hn : (s.reg q).namesChannel c.actuator = true) : False := by
    obtain ⟨hi, ha⟩ := (namesChannel_iff _ _).1 hn
    rw [(channelTaken_iff s r c.actuator).2 ⟨q, hq, hi, ha⟩] at hf; cases hf
  have named {d : Fin 16} (hn : ({ s.reg r with config := c } : Regulator).namesChannel d = true) : c.actuator = d :=
    ((namesChannel_iff _ _).1 hn).2
  refine ⟨fun q => ?records, fun q i hi => ?inputs, fun q i hi => ?feedback, fun q q' d hq hq' => ?channels, fun q he => ?bound⟩
  case records =>
    rw [State.setReg_read]; split
    · exact { record with
        ranges := {
          inputs := hc.inputs.2
          offHyst := hc.offHyst
          ceiling := hc.ceiling
          failsafe := hc.failsafe
          slew := hc.slew
          period := hc.period
          stallWindow := hc.stallWindow
          curve := record.ranges.curve
          output := record.ranges.output
          manual := record.ranges.manual }
        enabled := fun e => ⟨by simpa [Regulator.configured] using inputs, (record.enabled e).2⟩ }
    · exact h.records q
  case inputs =>
    rw [State.setReg_read] at hi
    split at hi
    · exact Option.isSome_iff_ne_none.2 (occupied i hi)
    · exact h.inputs q i hi
  case feedback =>
    rw [State.setReg_read] at hi
    split at hi
    · exact speed i (by simpa [Regulator.feedsBack, Regulator.configured, inputs] using hi)
    · exact h.feedback q i hi
  case channels =>
    rw [State.setReg_read] at hq hq'
    split at hq <;> split at hq'
    · next e e' => rw [e, e']
    · next e' => exact (free e' (named hq ▸ hq')).elim
    · next e _ => exact (free e (named hq' ▸ hq)).elim
    · exact h.channels q q' d hq hq'
  case bound =>
    rw [State.setReg_read] at he ⊢
    split
    · next e =>
      rw [if_pos e] at he
      have same : structuralChange (s.reg r).config c = false := hs.resolve_left he
      have actuator : c.actuator = (s.reg r).config.actuator := by
        by_contra hne
        rw [(structuralChange_iff _ _).2 (.inr (.inr (.inl hne)))] at same; cases same
      show (s.chan c.actuator).bound = true
      rw [actuator]; exact h.bound r he
    · next e => rw [if_neg e] at he; exact h.bound q he

theorem RegulatorLaw.configure {c : RegulatorConfig} (hc : c.InRange) (hp : pointsUsable s c = true)
    (hs : (s.reg r).state = .disabled ∨ structuralChange (s.reg r).config c = false) (hf : channelTaken s r c.actuator = false)
    (h : RegulatorLaw s) : RegulatorLaw (participateChange r (s.reg r) c (s.setReg r { s.reg r with config := c })) := by
  have written := h.setConfig hc hp hs hf
  have state : ((s.setReg r { s.reg r with config := c }).reg r).state = (s.reg r).state := by rw [State.setReg_self]
  unfold participateChange
  (repeat' split)
  · next e => exact written.evaluate (by rw [state, e]; rfl)
  · exact written
  · next e =>
    simp only [Bool.and_eq_true, Bool.or_eq_true, decide_eq_true_eq] at e
    obtain ⟨e | e, -⟩ := e <;> exact written.assertCeiling (by rw [state, e]; rfl)
  all_goals exact written

/-- R86: a curve is written that has at least two breakpoints. -/
theorem RegulatorLaw.setCurve {v : List Breakpoint} (hv : curveValid v = true) (h : RegulatorLaw s) :
    RegulatorLaw (s.setReg r { s.reg r with curve := v }) := by
  have record := h.records r
  have long : 2 ≤ v.length := by
    simp only [curveValid, Bool.and_eq_true, decide_eq_true_eq] at hv
    exact hv.1.1.1
  refine h.setReg ?_ rfl (Decidable.or_iff_not_imp_right.2 id)
  exact { record with
    ranges := { record.ranges with curve := .inr hv }
    enabled := fun e => ⟨(record.enabled e).1, long⟩ }

/-- R88, R89. -/
theorem RegulatorLaw.enable (he : enableable s (s.reg r) = true) (h : RegulatorLaw s) : RegulatorLaw (carryOutEnable r s) := by
  obtain ⟨-, inputs, curve, node⟩ := (enableable_iff s _).1 he
  obtain ⟨x, l, -, st⟩ := resumeControl_steers r (s.setReg r (s.reg r).readied)
  have ready : (s.reg r).readied.Ready := {
    ranges := { (h.records r).ranges with
      output := nofun
      manual := nofun }
    manual := rfl
    handover := rfl
    enabled := ⟨by simpa [Regulator.configured, Regulator.readied] using inputs, curve⟩ }
  exact calm_regulatorLaw.enableSupervisor
    (h.begin ready rfl (by simpa [Channel.bound, Regulator.readied] using node) st fun _ => by simp)

/-- R144: a release takes the manual level for the output. -/
theorem RegulatorLaw.release (hs : (s.reg r).state = .manual ∨ (s.reg r).state = .handover) (h : RegulatorLaw s) :
    RegulatorLaw (carryOutRelease r s) := by
  have enabled : (s.reg r).state ≠ .disabled := by obtain e | e := hs <;> rw [e] <;> decide
  have cancelled := tabular_regulatorLaw.cancelHandover (r := r) h
  have same : (cancelHandover r s).reg r = s.reg r := by simp
  obtain ⟨x, l, -, st⟩ := resumeControl_steers r ((cancelHandover r s).setReg r ((cancelHandover r s).reg r).released)
  have ready : ((cancelHandover r s).reg r).released.Ready := {
    ranges := { (cancelled.records r).ranges with
      output := (cancelled.records r).ranges.manual
      manual := nofun }
    manual := rfl
    handover := rfl
    enabled := (cancelled.records r).enabled (by rw [same]; exact enabled) }
  exact cancelled.begin ready rfl (cancelled.bound r (by rw [same]; exact enabled)) st fun _ => by simp

/-- R92: one regulator at RESTART. -/
theorem RegulatorLaw.restartRegulator (r : Fin 32) (h : RegulatorLaw s) : RegulatorLaw (restartRegulator r s) := by
  have record := h.records r
  have controlled (hs : (s.reg r).state.controlling = true)
      (e : (s.reg r).restart = { s.reg r with offLatched := false, manualLevel := none, handover := none }) :
      RegulatorLaw (Machine.startPeriod r (Machine.evaluate false r (s.setReg r (s.reg r).restart))) := by
    have was := record.ready hs
    obtain ⟨x, l, -, st⟩ := evaluate_steers false r (s.setReg r (s.reg r).restart)
    have ready : (s.reg r).restart.Ready := by
      rw [e]
      exact ⟨{ was.ranges with manual := nofun }, rfl, rfl, was.enabled⟩
    refine h.begin ready (by rw [e]) ?_ st fun _ => by simp
    rw [show (s.reg r).restart.config = (s.reg r).config by rw [e]]
    exact h.bound r fun e => by simp [e, RegulatorState.controlling] at hs
  have manual (hs : (s.reg r).state = .manual ∨ (s.reg r).state = .handover)
      (e : (s.reg r).restart = { s.reg r with state := .manual, offLatched := false, handover := none, periodTimer := none }) :
      RegulatorLaw (Machine.writeManual r (s.setReg r (s.reg r).restart)) := by
    have enabled : (s.reg r).state ≠ .disabled := by obtain e | e := hs <;> rw [e] <;> decide
    obtain ⟨-, l, hl, bound⟩ := record.held hs
    refine RegulatorLaw.writeManual (h.setReg ?_ (by rw [e]) (.inl enabled)) r
    rw [e]
    simpa [hl] using record.manually (ref := none) (b := false) enabled (.inl rfl) (by simp) bound
  unfold Machine.restartRegulator
  dsimp only
  split
  · next hs =>
    have e : (s.reg r).restart = { s.reg r with
        state := .disabled, manualLevel := none, handover := none, periodTimer := none, offLatched := false } := by
      simp [Regulator.restart, hs]
    exact h.setReg (e ▸ record.disabled) (by rw [e]) (.inr (by rw [e]))
  · next hs => exact manual (.inl hs) (by simp [Regulator.restart, hs])
  · next hs => exact manual (.inr hs) (by simp [Regulator.restart, hs])
  · next hs => exact controlled (by rw [hs]; rfl) (by simp [Regulator.restart, hs])
  · next hs => exact controlled (by rw [hs]; rfl) (by simp [Regulator.restart, hs])
  · next hs => exact controlled (by rw [hs]; rfl) (by simp [Regulator.restart, hs])

theorem RegulatorLaw.restart (h : RegulatorLaw s) : RegulatorLaw (forEachRegulator Machine.restartRegulator (restartBlocks s)) := by
  refine forEachRegulator_keeps _ RegulatorLaw (fun r _ hu => hu.restartRegulator r) (h.congr (fun _ => rfl) (fun i => ?_) fun c => ?_)
  · rw [restartBlocks_point, Option.map_map]; rfl
  · rw [restartBlocks_chan]; rfl

/-- R137, R138: a regulator under control is taken into MANUAL or HANDOVER. -/
theorem RegulatorLaw.take (hl : l ≤ 1000) (hs : (s.reg r).state.controlling = true) (h : RegulatorLaw s) {ref : Option EntryRef}
    (hx : x = .manual ∨ x = .handover) (hr : ref.isSome ↔ x = .handover) : RegulatorLaw (s.setReg r ((s.reg r).take x l ref)) := by
  have enabled : (s.reg r).state ≠ .disabled := fun e => by simp [e, RegulatorState.controlling] at hs
  exact h.setReg ((h.records r).manually enabled hx hr hl) rfl (.inl enabled)

/-- R142: a new manual level in MANUAL or HANDOVER. -/
theorem RegulatorLaw.level (hl : l ≤ 1000) (hs : (s.reg r).state = .manual ∨ (s.reg r).state = .handover) (h : RegulatorLaw s) :
    RegulatorLaw (s.setReg r { s.reg r with manualLevel := some l }) := by
  have record := h.records r
  refine h.setReg ?_ rfl (.inl (by obtain e | e := hs <;> rw [e] <;> decide))
  exact { record with
    ranges := { record.ranges with manual := by rintro _ ⟨⟩; exact hl }
    manual := by simp [hs] }

theorem upheld_regulatorLaw : Upheld RegulatorLaw where
  toTabular := tabular_regulatorLaw
  reading := apart_regulatorLaw.reporting.reading
  ackOk _ _ h := calm_regulatorLaw.ackOk h
  ackReject _ h := calm_regulatorLaw.ackReject h
  grantSet _ _ h := calm_regulatorLaw.grantSet (fun _ h => h.congr (fun _ => rfl) (fun _ => rfl) fun _ => rfl) h
  setDone _ h := calm_regulatorLaw.setDone (h.congr (fun _ => rfl) (fun _ => rfl) fun _ => rfl)
  advance h := calm_regulatorLaw.marks h
  staleness := apart_regulatorLaw.reporting.staleness
  period := RegulatorLaw.period
  hold h := apart_regulatorLaw.hold h
  window := calm_regulatorLaw.window
  ack := calm_regulatorLaw.ack
  probe := calm_regulatorLaw.probe
  visit := apart_regulatorLaw.reporting.visit
  restart := RegulatorLaw.restart
  clear _ := .of_default (by simp [clearBlocks, State.reg])
  cold a := (cold_inv a).regulators
  holdTime _ h := apart_regulatorLaw.om _ h
  write _ _ hk h := h.carryOutWrite hk
  delete hn h := apart_regulatorLaw.leaveCritical _ (h.deletePoint hn)
  watch := apart_regulatorLaw.reporting.watch
  configure := RegulatorLaw.configure
  curve _ _ hv h := h.setCurve hv
  enable := RegulatorLaw.enable
  disable r h := by
    have cancelled := tabular_regulatorLaw.cancelHandover (r := r) h
    exact calm_regulatorLaw.resetSupervisor (cancelled.setReg (cancelled.records r).disabled rfl (.inr rfl))
  manual hl hs h := (h.level hl (.inl hs)).writeManual _
  taken hl hs h := (h.take hl hs (.inl rfl) (by simp)).writeManual _
  handover _ hl hs h := h.take hl hs (.inr rfl) (by simp)
  level hl hs h := h.level hl (.inr hs)
  release := RegulatorLaw.release
  bind _ he _ _ h := calm_regulatorLaw.bind he h
  reset := calm_regulatorLaw.reset

/-- Settles O8: each write of a record leaves it lawful; configurations, kinds and bindings change only under the checks of R34, R84 and
R129. -/
theorem regulatorLawIsKept : Obligations.RegulatorLawIsKept := fun _ _ h ht => upheld_regulatorLaw.step h ht

end Sys2Proof.Machine
end

section
/-! Every step keeps the law of the stall supervisors (O11). -/

namespace Sys2Proof.Machine
open Sys2Proof.Claims

variable {s t : State} {r : Fin 32} {c : Fin 16} {k : Channel}

/-- The law of the supervisors, with what it needs of the Regulator Table (R68): no channel is named twice. -/
structure Supervising (s : State) : Prop where
  law : SupervisorLaw s
  named : ∀ r q c, (s.reg r).namesChannel c = true → (s.reg q).namesChannel c = true → r = q

/-- Configurations and acked levels stay, as do the supervisors and what the alert record holds of them, and no regulator is disabled. -/
theorem Supervising.keep (h : Supervising s) (config : ∀ r, (t.reg r).config = (s.reg r).config)
    (state : ∀ r, (t.reg r).state = .disabled → (s.reg r).state = .disabled) (acked : ∀ c, (t.chan c).acked = (s.chan c).acked)
    (sup : ∀ r, t.sup r = s.sup r) (alert : t.nu.alert.stalled = s.nu.alert.stalled) : Supervising t where
  law := {
    inactive := fun r hr => by
      rw [sup]
      refine h.law.inactive r (Bool.eq_false_iff.2 fun e => Bool.eq_false_iff.1 hr ?_)
      obtain ⟨inputs, feedback, enabled⟩ := (supervised_iff _).1 e
      exact (supervised_iff _).2 ⟨config r ▸ inputs, config r ▸ feedback, fun e => enabled (state r e)⟩
    window := fun r hr => by
      have same : armed t r = armed s r := by simp only [armed, config, acked]
      rw [sup] at hr ⊢
      rw [same]
      exact h.law.window r hr
    alert := fun r => by rw [alert, sup]; exact h.law.alert r }
  named := by
    have names (q : Fin 32) (c : Fin 16) : (t.reg q).namesChannel c = (s.reg q).namesChannel c := by
      simp only [Regulator.namesChannel, Regulator.configured, config]
    intro r q c hr hq
    rw [names] at hr hq
    exact h.named r q c hr hq

/-- Nothing that the law reads changes. -/
theorem Supervising.congr (h : Supervising s) (regs : ∀ r, t.reg r = s.reg r) (acked : ∀ c, (t.chan c).acked = (s.chan c).acked)
    (sup : ∀ r, t.sup r = s.sup r) (alert : t.nu.alert.stalled = s.nu.alert.stalled) : Supervising t :=
  h.keep (fun r => by rw [regs]) (fun r e => regs r ▸ e) acked sup alert

theorem Supervising.of_law (hr : RegulatorLaw s) (h : SupervisorLaw s) : Supervising s := ⟨h, hr.channels⟩

theorem Supervising.of_default (hr : ∀ r, s.reg r = Regulator.default) (hp : ∀ r, s.sup r = Supervisor.reset)
    (alert : s.nu.alert.stalled = []) : Supervising s := .of_law (.of_default hr) (.of_reset hp alert)

/-- R104: a window runs only on a supervised regulator. -/
theorem SupervisorLaw.supervised (h : SupervisorLaw s) (hw : (s.sup r).window.isSome) : (s.reg r).supervised = true := by
  by_contra hn
  rw [h.inactive r (Bool.eq_false_iff.2 hn)] at hw
  cases hw

theorem tabular_supervising : Tabular Supervising where
  desk _ h := h.congr (fun _ => rfl) (fun _ => rfl) (fun _ => rfl) rfl
  notes {s u} e h := h.congr (fun _ => rfl) (fun _ => rfl) (fun _ => rfl) (by rw [State.withNu_nu, e])
  counters _ h := h.congr (fun _ => rfl) (fun _ => rfl) (fun _ => rfl) rfl
  sweep _ h := h.congr (fun _ => rfl) (fun _ => rfl) (fun _ => rfl) rfl
  turns _ h := h.congr (fun _ => rfl) (fun _ => rfl) (fun _ => rfl) rfl
  queue _ h := h.congr (fun _ => rfl) (fun _ => rfl) (fun _ => rfl) rfl
  chain _ h := h.congr (fun _ => rfl) (fun _ => rfl) (fun _ => rfl) rfl

theorem steady_supervising : Steady Supervising where
  toTabular := tabular_supervising
  reg {s r g} hc _ hd h := by
    refine h.keep (fun q => ?_) (fun q => ?_) (fun _ => rfl) (fun _ => rfl) rfl
    · rw [State.setReg_read]; split
      · next e => rw [e, hc]
      · rfl
    · rw [State.setReg_read]; split
      · next e => rw [e]; exact hd
      · exact id
  drive _ _ h := h.congr (fun _ => by simp) (fun _ => by simp) (fun _ => by simp) rfl

/-- A channel's record is written with its acked level as it was. -/
theorem Supervising.setChan (h : Supervising s) (hk : k.acked = (s.chan c).acked) : Supervising (s.setChan c k) := by
  refine h.congr (fun _ => rfl) (fun d => ?_) (fun _ => rfl) rfl
  rw [State.setChan_read]; split
  · next e => rw [e, hk]
  · rfl

theorem Supervising.tellFaulted {b : Bool} (h : Supervising s) : Supervising (tellFaulted c b s) :=
  h.congr (fun _ => rfl) (fun _ => rfl) (fun _ => rfl) rfl

theorem Supervising.report {b : Bool} (h : Supervising s) : Supervising (reportEntry c b s) := steady_supervising.report h

theorem Supervising.sendChecked (h : Supervising s) : Supervising (s.setChan c (s.chan c).sendCheck) := h.setChan (by simp)

/-! ## The supervisors -/

theorem Supervising.supervise (h : Supervising s) (hl : SupervisorLaw t) (hr : ∀ r, t.reg r = s.reg r) : Supervising t :=
  ⟨hl, fun r q c hr' hq' => h.named r q c (hr r ▸ hr') (hr q ▸ hq')⟩

/-- R105: arming a supervisor of an armed regulator. -/
theorem Supervising.arm (h : Supervising s) (hs : (s.reg r).supervised = true) (ha : armed s r = true) : Supervising (armSupervisor r s) := by
  unfold armSupervisor
  split
  · exact h.supervise (h.law.startWindow hs ha) fun _ => by simp
  · exact h

theorem Supervising.enableSupervisor (h : Supervising s) : Supervising (enableSupervisor r s) := by
  unfold Machine.enableSupervisor
  split
  · next e =>
    rw [Bool.and_eq_true] at e
    exact h.arm e.1 e.2
  · exact h

/-- R107: the window of a supervisor ends in STALLED. -/
theorem Supervising.window (r : Fin 32) (h : Supervising s) : Supervising (windowExpiry r s) := by
  unfold windowExpiry
  split
  · next due =>
    have running : (s.sup r).window.isSome := by
      cases hw : (s.sup r).window with
      | none => rw [hw] at due; cases due
      | some e => rfl
    have told : SupervisorLaw (tellStalled r true (s.setSup r { stalled := true, window := none })) := by
      refine h.law.setSup (r := r) (x := { stalled := true, window := none }) (fun e => ?_) nofun (fun _ => rfl) (fun _ => rfl)
        (fun _ => rfl) fun q => ?_
      · rw [h.law.supervised running] at e; cases e
      · simp only [tellStalled, State.withNu_nu, State.setSup_nu, if_true, mem_insertIndex]
        split
        · next e => simp [e]
        · next e => simp [e]
    exact tabular_supervising.raise (h.supervise told fun _ => by simp)
  · exact h

/-- R105: the acked level of a channel is written and the supervisor that it arms or disarms is told. -/
theorem Supervising.ackedChanged (h : Supervising s) : Supervising (ackedChanged c (s.chan c).acked (s.setChan c k)) := by
  have write {u : State} (hu : Supervising u) (hw : ∀ q, (u.sup q).window.isSome → (u.reg q).config.actuator = c → arms k.acked = true) :
      Supervising (u.setChan c k) := by
    refine hu.supervise ⟨hu.law.inactive, fun q hq => ⟨?_, (hu.law.window q hq).2⟩, hu.law.alert⟩ fun _ => rfl
    unfold armed
    rw [State.setChan_reg, State.setChan_read]
    split
    · next e => exact hw q hq e
    · exact (hu.law.window q hq).1
  have names {q : Fin 32} (hq : (s.sup q).window.isSome) (ha : (s.reg q).config.actuator = c) : (s.reg q).namesChannel c = true :=
    (namesChannel_iff _ _).2 ⟨((supervised_iff _).1 (h.law.supervised hq)).1, ha⟩
  have armedBefore {q : Fin 32} (hq : (s.sup q).window.isSome) (ha : (s.reg q).config.actuator = c) : arms (s.chan c).acked = true := by
    rw [← ha]; exact (h.law.window q hq).1
  unfold Machine.ackedChanged
  split
  · next hn =>
    refine write h fun q hq ha => ?_
    unfold namerOf at hn
    exact absurd (names hq ha) (by simpa using List.find?_eq_none.1 hn q (List.mem_finRange q))
  · next r hn =>
    have named : (s.reg r).namesChannel c = true := List.find?_some (p := fun q => ((s.setChan c k).reg q).namesChannel c) hn
    have only {q : Fin 32} (hq : (s.sup q).window.isSome) (ha : (s.reg q).config.actuator = c) : q = r := h.named q r c (names hq ha) named
    have actuator : (s.reg r).config.actuator = c := ((namesChannel_iff _ _).1 named).2
    rw [State.setChan_self]
    split
    · next hs =>
      split
      · next hold hnew =>
        refine Supervising.arm (write h fun q hq ha => hnew) hs ?_
        unfold armed
        rw [State.setChan_reg, actuator, State.setChan_self, hnew]
      · next hold hnew =>
        have stopped : Supervising (stopWindow r s) := h.supervise h.law.stopWindow fun _ => by simp
        refine write stopped fun q hq ha => ?_
        by_cases e : q = r
        · simp [e, stopWindow] at hq
        · rw [stopWindow, State.setSup_ne _ _ e] at hq
          exact absurd (only hq ha) e
      · next hold hnew => exact write h fun q hq ha => absurd (armedBefore hq ha) (by rw [hold]; simp)
      · next hold hnew => exact write h fun q hq ha => hnew
    · next hs =>
      refine write h fun q hq ha => absurd (h.law.supervised hq) ?_
      rw [only hq ha]
      exact hs

/-- A channel settles in IDLE: what it tells, its send check and its report. -/
theorem Supervising.settleIdleChannel (h : Supervising s) : Supervising (settleIdleChannel c (s.chan c) k s) := by
  have told : Supervising (Machine.ackedChanged c (s.chan c).acked (s.setChan c k)) := h.ackedChanged
  unfold Machine.settleIdleChannel
  dsimp only
  split <;> split
  · exact told.tellFaulted.sendChecked.report
  · exact told.sendChecked.report
  · exact told.tellFaulted.sendChecked
  · exact told.sendChecked

theorem Supervising.ackOk {l : Nat} (h : Supervising s) : Supervising (ackOk c l s) := by
  have idle : Supervising (Machine.ackedChanged c (s.chan c).acked (s.setChan c ((s.chan c).acknowledge l))) := h.ackedChanged
  have recovered := (tabular_supervising.raise (kind := .actRecovered) (subject := some c.val) (value := l) (severity := .info) idle)
  unfold Machine.ackOk
  dsimp only
  split <;> split
  · exact recovered.tellFaulted.sendChecked.report
  · exact idle.sendChecked.report
  · exact recovered.tellFaulted.report
  · exact idle.report

/-- Entering FAULT keeps the acked level. -/
theorem Supervising.faulting (h : Supervising s) : Supervising (s.setChan c ((s.chan c).enterFault (s.startTimer Config.probeMs))) :=
  h.setChan rfl

theorem Supervising.enterFault {cause : Nat} (h : Supervising s) : Supervising (enterFault c cause s) :=
  (tabular_supervising.raise h.faulting).tellFaulted.report

theorem Supervising.returnToFault (h : Supervising s) : Supervising (returnToFault c s) := h.faulting.report

theorem Supervising.ackReject (h : Supervising s) : Supervising (ackReject c s) := by
  unfold Machine.ackReject; dsimp only; (repeat' split)
  · exact h.enterFault
  · exact h.setChan rfl
  · exact h.returnToFault

theorem Supervising.ack (c : Fin 16) (h : Supervising s) : Supervising (ackExpiry c s) := by
  unfold ackExpiry; dsimp only; (repeat' split)
  · exact h.returnToFault
  · exact tabular_supervising.signal (h.setChan rfl)
  · exact h.enterFault
  · exact h

theorem Supervising.probe (c : Fin 16) (h : Supervising s) : Supervising (probeExpiry c s) := by
  unfold probeExpiry; dsimp only; split
  · exact h.setChan rfl
  · exact h

theorem Supervising.setDone (h : Supervising s) : Supervising (setDone c s) := by
  unfold Machine.setDone; dsimp only; split
  · exact Supervising.setChan (tabular_supervising.signal h) rfl
  · exact tabular_supervising.signal h

/-- R84: a structural field of an enabled regulator does not change. -/
theorem Supervising.setConfig (h : Supervising s) {n : RegulatorConfig}
    (hs : (s.reg r).state = .disabled ∨ structuralChange (s.reg r).config n = false) (hf : channelTaken s r n.actuator = false) :
    Supervising (s.setReg r { s.reg r with config := n }) := by
  have same (he : (s.reg r).state ≠ .disabled) :
      n.inputs = (s.reg r).config.inputs ∧ n.actuator = (s.reg r).config.actuator ∧ n.feedback = (s.reg r).config.feedback := by
    have unchanged := Bool.eq_false_iff.1 (hs.resolve_left he)
    rw [ne_eq, structuralChange_iff, not_or, not_or, not_or] at unchanged
    obtain ⟨inputs, -, actuator, feedback⟩ := unchanged
    exact ⟨not_not.1 inputs, not_not.1 actuator, not_not.1 feedback⟩
  have free {q : Fin 32} (hq : q ≠ r) (hn : (s.reg q).namesChannel n.actuator = true) : False := by
    obtain ⟨hi, ha⟩ := (namesChannel_iff _ _).1 hn
    rw [(channelTaken_iff s r n.actuator).2 ⟨q, hq, hi, ha⟩] at hf; cases hf
  have named {d : Fin 16} (hn : ({ s.reg r with config := n } : Regulator).namesChannel d = true) : n.actuator = d :=
    ((namesChannel_iff _ _).1 hn).2
  refine ⟨⟨fun q hq => ?inactive, fun q hq => ?window, h.law.alert⟩, fun q q' d hq hq' => ?named⟩
  case inactive =>
    rw [State.setReg_read] at hq
    split at hq
    · next e =>
      subst e
      refine h.law.inactive q (Bool.eq_false_iff.2 fun e => Bool.eq_false_iff.1 hq ?_)
      obtain ⟨inputs, feedback, enabled⟩ := (supervised_iff _).1 e
      obtain ⟨hi, -, hf⟩ := same enabled
      exact (supervised_iff _).2 ⟨by rw [← hi] at inputs; exact inputs, by rw [← hf] at feedback; exact feedback, enabled⟩
    · exact h.law.inactive q hq
  case window =>
    obtain ⟨armed, stalled⟩ := h.law.window q hq
    refine ⟨?_, stalled⟩
    unfold Machine.armed at armed ⊢
    rw [State.setReg_chan, State.setReg_read]
    split
    · next e =>
      subst e
      rw [show ({ s.reg q with config := n } : Regulator).config.actuator = (s.reg q).config.actuator from
        (same ((supervised_iff _).1 (h.law.supervised hq)).2.2).2.1]
      exact armed
    · exact armed
  case named =>
    rw [State.setReg_read] at hq hq'
    split at hq <;> split at hq'
    · next e e' => rw [e, e']
    · next e' => exact (free e' (named hq ▸ hq')).elim
    · next e _ => exact (free e (named hq' ▸ hq)).elim
    · exact h.named q q' d hq hq'

/-- R90: the supervisor of a disabled regulator is reset. -/
theorem Supervising.disable (r : Fin 32) (h : Supervising s) : Supervising (carryOutDisable r s) := by
  have cancelled := tabular_supervising.cancelHandover (r := r) h
  unfold carryOutDisable
  generalize cancelHandover r s = u at cancelled
  have config (q : Fin 32) : ((u.setReg r (u.reg r).disable).reg q).config = (u.reg q).config := by
    rw [State.setReg_read]; split
    · next e => rw [e]; rfl
    · rfl
  have elsewhere {q : Fin 32} (hq : q ≠ r) : (resetSupervisor r (u.setReg r (u.reg r).disable)).sup q = u.sup q := by
    simp only [resetSupervisor, tellStalled_sup]
    rw [State.setSup_ne _ _ hq, State.setReg_sup]
  have there : (resetSupervisor r (u.setReg r (u.reg r).disable)).sup r = Supervisor.reset := by simp [resetSupervisor]
  have regs (q : Fin 32) : (resetSupervisor r (u.setReg r (u.reg r).disable)).reg q = (u.setReg r (u.reg r).disable).reg q := by simp
  refine ⟨⟨fun q hq => ?_, fun q hq => ?_, fun q => ?_⟩, fun q q' d hq hq' => ?_⟩
  · by_cases e : q = r
    · rw [e]; exact there
    · rw [regs, State.setReg_ne _ _ e] at hq
      rw [elsewhere e]; exact cancelled.law.inactive q hq
  · by_cases e : q = r
    · rw [e, there] at hq; cases hq
    · rw [elsewhere e] at hq ⊢
      obtain ⟨armed, stalled⟩ := cancelled.law.window q hq
      refine ⟨?_, stalled⟩
      unfold Machine.armed at armed ⊢
      rw [regs, config]
      simpa using armed
  · have alert : q ∈ (resetSupervisor r (u.setReg r (u.reg r).disable)).nu.alert.stalled ↔ q ∈ u.nu.alert.stalled ∧ q ≠ r := by
      simp [resetSupervisor, tellStalled, mem_removeIndex]
    rw [alert]
    by_cases e : q = r
    · rw [e, there]; simp [Supervisor.reset]
    · rw [elsewhere e, cancelled.law.alert q]; simp [e]
  · have names (j : Fin 32) : ((resetSupervisor r (u.setReg r (u.reg r).disable)).reg j).namesChannel d = (u.reg j).namesChannel d := by
      rw [regs]; simp only [Regulator.namesChannel, Regulator.configured, config]
    rw [names] at hq hq'
    exact cancelled.named q q' d hq hq'

theorem apart_supervising : Apart Supervising where
  toIncidental := tabular_supervising.toIncidental
  om _ h := h.congr (fun _ => rfl) (fun _ => rfl) (fun _ => rfl) rfl
  told _ h := h.congr (fun _ => rfl) (fun _ => rfl) (fun _ => rfl) rfl
  point _ _ _ h := h.congr (fun _ => rfl) (fun _ => rfl) (fun _ => rfl) rfl
  feedback _ _ h := h.supervise h.law.handFeedback fun _ => by simp
  wentStale _ h := h.supervise h.law.handStaleness fun _ => by simp
  entry _ _ h := steady_supervising.driving.entry h
  clearing _ _ h := steady_supervising.driving.clearing h

theorem Supervising.bind {n : ChannelConfig} (h : Supervising s) : Supervising (carryOutBinding c n s) := by
  unfold carryOutBinding; dsimp only; (repeat' split)
  · exact h.setChan rfl
  · exact h.settleIdleChannel
  · exact h.setChan rfl

theorem Supervising.restartBlocks (h : Supervising s) : Supervising (restartBlocks s) :=
  ⟨.of_reset (by simp [Machine.restartBlocks, State.sup]) rfl, h.named⟩

theorem upheld_supervising : Upheld Supervising where
  toTabular := tabular_supervising
  reading := apart_supervising.reporting.reading
  ackOk _ _ h := h.ackOk
  ackReject _ h := h.ackReject
  grantSet {s c} _ _ h := by
    have sent : Supervising (s.setChan c { s.chan c with transmitting := true }) := h.setChan rfl
    exact sent.congr (fun _ => rfl) (fun _ => rfl) (fun _ => rfl) rfl
  setDone _ h := Supervising.setDone (h.congr (fun _ => rfl) (fun _ => rfl) (fun _ => rfl) rfl)
  advance h := h.congr (fun _ => rfl) (fun _ => by simp) (fun _ => rfl) rfl
  staleness := apart_supervising.reporting.staleness
  period _ h := steady_supervising.driving.period h
  hold h := apart_supervising.hold h
  window := Supervising.window
  ack := Supervising.ack
  probe := Supervising.probe
  visit := apart_supervising.reporting.visit
  restart h := steady_supervising.restart h.restartBlocks
  clear _ := .of_default (by simp [clearBlocks, State.reg]) (by simp [clearBlocks, State.sup]) rfl
  cold a := .of_default (State.cold_reg a) (State.cold_sup a) rfl
  holdTime _ h := apart_supervising.om _ h
  write _ _ _ h := apart_supervising.write (fun _ h => h.congr (fun _ => rfl) (fun _ => rfl) (fun _ => rfl) rfl) h
  delete _ h := apart_supervising.leaveCritical _ (Supervising.congr h (fun _ => rfl) (fun _ => rfl) (fun _ => rfl) rfl)
  watch := apart_supervising.reporting.watch
  configure _ _ hs hf h := steady_supervising.driving.participateChange (h.setConfig hs hf)
  curve r _ _ h := steady_supervising.move h rfl (.inr rfl) (.inr rfl)
  enable _ h := Supervising.enableSupervisor (steady_supervising.enable h)
  disable := Supervising.disable
  manual hl _ h := steady_supervising.manual hl h
  taken hl _ h := steady_supervising.driving.writeManual (steady_supervising.take nofun hl h)
  handover _ hl _ h := steady_supervising.take nofun hl h
  level hl _ h := steady_supervising.level hl h
  release _ h := steady_supervising.release h
  bind _ _ _ _ h := h.bind
  reset _ h := h.settleIdleChannel

/-- Settles O11: windows stop with the acked level that arms them, and a regulator is disabled only with its supervisor reset. -/
theorem supervisorLawIsKept : Obligations.SupervisorLawIsKept :=
  fun _ _ hr h ht => (upheld_supervising.step (.of_law hr h) ht).law

end Sys2Proof.Machine
end

section
/-! Every step keeps the law of the Actuator Channel Table (O9). -/

namespace Sys2Proof.Machine
open Sys2Proof.Claims

variable {s t : State} {c : Fin 16} {k : Channel}

/-! ## Records (section 6.1) -/

theorem exchangeOpen_false_of_idle (h : k.state = .idle) : k.exchangeOpen = false := by simp [Channel.exchangeOpen, h]

/-- A channel at rest: IDLE, with nothing of an exchange left. -/
theorem Channel.Lawful.resting (hc : k.config.InRange) (hs : k.state = .idle) (hf : k.inFlight = none) (hr : k.retries = 0)
    (ht : k.transmitting = false) (hp : k.probing = false) (ha : k.ackTimer = none) (hb : k.probeTimer = none)
    (hl : ∀ l, k.acked = some l → l ≤ 1000) : k.Lawful where
  node := hc.node
  ackTimeout := hc.ackTimeout
  retryLimit := hc.retryLimit
  retries := by omega
  idle_retries _ := hr
  inFlight := by simp [hf, exchangeOpen_false_of_idle hs]
  ackTimer := by simp [ha, hs]
  probeTimer := by simp [hb, hs]
  transmitting e := by rw [ht] at e; cases e
  probing e := by rw [hp] at e; cases e
  working e := absurd hs e
  acked := hl

theorem Channel.Lawful.configured (h : k.Lawful) : k.config.InRange := ⟨h.node, h.ackTimeout, h.retryLimit⟩

/-- R118, R127: an exchange opened outside AWAIT_ACK, a probe or not. -/
theorem Channel.Lawful.opened (h : k.Lawful) (hb : k.bound = true) (hd : k.desired.isSome = true) (hs : k.state ≠ .awaitAck) {p m : Bool} :
    ({ k.openExchange with probing := p, probeTimer := none, justOpened := m } : Channel).Lawful :=
  { h with
    retries := Nat.zero_le _
    idle_retries := fun _ => rfl
    inFlight := by simpa [Channel.openExchange, Channel.exchangeOpen] using hd
    ackTimer := by
      have stopped : ¬ k.ackTimer.isSome = true := fun e => hs (h.ackTimer.1 e)
      simpa [Channel.openExchange] using stopped
    probeTimer := by simp [Channel.openExchange]
    transmitting := fun e => by simp [Channel.openExchange] at e
    probing := fun _ => by simp [Channel.openExchange]
    working := fun _ => ⟨hb, hd⟩ }

/-- In IDLE nothing of an exchange is left. -/
theorem Channel.Lawful.quiet (h : k.Lawful) (hs : k.state = .idle) : k.probing = false ∧ k.probeTimer = none ∧ k.transmitting = false := by
  refine ⟨?_, ?_, ?_⟩
  · exact Bool.eq_false_iff.2 fun e => h.probing e hs
  · exact Option.not_isSome_iff_eq_none.1 fun e => by rw [h.probeTimer.1 e] at hs; cases hs
  · exact Bool.eq_false_iff.2 fun e => by rw [h.transmitting e] at hs; cases hs

/-- R118: the send check. -/
theorem Channel.Lawful.sendCheck (h : k.Lawful) : k.sendCheck.Lawful := by
  unfold Channel.sendCheck
  split
  · next e =>
    simp only [Channel.mustSend, Bool.and_eq_true, decide_eq_true_eq] at e
    obtain ⟨hs, ⟨hb, hd⟩, -⟩ := e
    obtain ⟨probing, timer, -⟩ := h.quiet hs
    have same : k.openExchange = { k.openExchange with probing := false, probeTimer := none, justOpened := false } := by
      simp [Channel.openExchange, probing, timer]
    rw [same]
    exact h.opened hb hd (by rw [hs]; decide)
  · exact h

/-- The mark of the moment is no part of the law. -/
theorem Channel.Lawful.marked (h : k.Lawful) {m : Bool} : ({ k with justOpened := m } : Channel).Lawful := { h with }

/-- R117: a desired-level write. -/
theorem Channel.Lawful.writeDesired (h : k.Lawful) (l : Nat) : (k.writeDesired l).Lawful := by
  have desiring : ({ k with desired := some l } : Channel).Lawful := { h with working := fun e => ⟨(h.working e).1, rfl⟩ }
  unfold Channel.writeDesired Channel.markOpened
  split
  · split
    · exact desiring.sendCheck.marked
    · exact desiring.sendCheck
  · exact desiring

/-- The send check keeps the configuration, opens an exchange that is not granted, and makes no channel faulted. -/
theorem sendCheck_keeps (k : Channel) : k.sendCheck.config = k.config ∧ (k.sendCheck.transmitting = true → k.transmitting = true) ∧
    k.sendCheck.faulted = k.faulted := by
  unfold Channel.sendCheck
  split
  · next e =>
    simp only [Bool.and_eq_true, decide_eq_true_eq] at e
    exact ⟨rfl, nofun, by simp [Channel.faulted, Channel.openExchange, e.1]⟩
  · exact ⟨rfl, id, rfl⟩

theorem writeDesired_keeps (k : Channel) (l : Nat) : (k.writeDesired l).config = k.config ∧
    ((k.writeDesired l).transmitting = true → k.transmitting = true) ∧ (k.writeDesired l).faulted = k.faulted := by
  obtain ⟨config, transmitting, faulted⟩ := sendCheck_keeps { k with desired := some l }
  unfold Channel.writeDesired Channel.markOpened
  split
  · split <;> exact ⟨config, transmitting, faulted⟩
  · exact ⟨rfl, id, rfl⟩

/-- R126: a channel in an exchange or in FAULT enters FAULT. -/
theorem Channel.Lawful.enterFault (h : k.Lawful) (hs : k.state ≠ .idle) {timer : Option Time} (ht : timer.isSome = true) :
    (k.enterFault timer).Lawful :=
  { h with
    retries := Nat.zero_le _
    idle_retries := fun _ => rfl
    inFlight := by simp [Channel.enterFault, Channel.endExchange, Channel.exchangeOpen]
    ackTimer := by simp [Channel.enterFault]
    probeTimer := by simp [Channel.enterFault, ht]
    transmitting := fun e => by simp [Channel.enterFault, Channel.endExchange] at e
    probing := fun _ => by simp [Channel.enterFault]
    working := fun _ => h.working hs }

/-- R125: a SET is to be sent again. -/
theorem Channel.Lawful.retry (h : k.Lawful) (hs : k.state = .awaitAck) (hr : k.retries < k.config.retryLimit) : k.retry.Lawful :=
  { h with
    retries := by have := h.retryLimit; show k.retries + 1 ≤ 7; omega
    idle_retries := fun e => by simp [Channel.retry, Channel.exchangeOpen] at e
    inFlight := by
      have carried : k.inFlight.isSome = true := h.inFlight.2 (by simp [Channel.exchangeOpen, hs])
      simpa [Channel.retry, Channel.exchangeOpen] using carried
    ackTimer := by simp [Channel.retry]
    probeTimer := by
      have stopped : ¬ k.probeTimer.isSome = true := fun e => by rw [h.probeTimer.1 e] at hs; cases hs
      simpa [Channel.retry] using stopped
    transmitting := fun e => by simp [Channel.retry] at e
    probing := fun _ => by simp [Channel.retry]
    working := fun _ => h.working (by rw [hs]; decide) }

/-- R120: the SET is sent and its acknowledgement awaited. -/
theorem Channel.Lawful.sent (h : k.Lawful) (hs : k.state = .sending) {timer : Option Time} (ht : timer.isSome = true) :
    ({ k with transmitting := false, state := .awaitAck, ackTimer := timer } : Channel).Lawful :=
  { h with
    idle_retries := fun e => by simp [Channel.exchangeOpen] at e
    inFlight := by
      have carried : k.inFlight.isSome = true := h.inFlight.2 (by simp [Channel.exchangeOpen, hs])
      simpa [Channel.exchangeOpen] using carried
    ackTimer := by simp [ht]
    probeTimer := by
      have stopped : ¬ k.probeTimer.isSome = true := fun e => by rw [h.probeTimer.1 e] at hs; cases hs
      simpa using stopped
    transmitting := nofun
    probing := fun _ => by simp
    working := fun _ => h.working (by rw [hs]; decide) }

/-- R130: another configuration of a channel whose exchange is not open, still bound to a node if it was. -/
theorem Channel.Lawful.reconfigure (h : k.Lawful) {n : ChannelConfig} (hn : n.InRange) (hb : n.node = k.config.node) :
    ({ k with config := n } : Channel).Lawful :=
  { h with
    node := hn.node
    ackTimeout := hn.ackTimeout
    retryLimit := hn.retryLimit
    working := fun e => by
      obtain ⟨bound, desired⟩ := h.working e
      exact ⟨by simpa [Channel.bound, hb] using bound, desired⟩ }

/-- R130: a rebound channel. -/
theorem Channel.Lawful.rebound (h : k.Lawful) {n : ChannelConfig} (hn : n.InRange) (ho : k.exchangeOpen = false) : (k.rebound n).Lawful := by
  have closed : k.state ≠ .sending ∧ k.state ≠ .awaitAck := by simpa [Channel.exchangeOpen] using ho
  obtain ⟨sending, awaiting⟩ := closed
  refine .resting hn rfl ?_ rfl ?_ rfl ?_ rfl nofun
  · exact Option.not_isSome_iff_eq_none.1 fun e => by rw [h.inFlight.1 e] at ho; cases ho
  · exact Bool.eq_false_iff.2 fun e => sending (h.transmitting e)
  · exact Option.not_isSome_iff_eq_none.1 fun e => awaiting (h.ackTimer.1 e)

/-! ## The table (R113, R114, R119) -/

/-- The law reads the channels, the port and the faulted part of the alert record. -/
theorem ChannelLaw.congr (h : ChannelLaw s) (hk : ∀ c, t.chan c = s.chan c) (hp : t.ci.port = s.ci.port)
    (ha : t.nu.alert.faulted = s.nu.alert.faulted) : ChannelLaw t where
  records c := hk c ▸ h.records c
  bindings c d := by rw [hk, hk]; exact h.bindings c d
  wire c := by rw [hk, hp]; exact h.wire c
  alert c := by rw [hk, ha]; exact h.alert c

/-- The record of one channel is written, and the alert record told as the channel then stands. -/
structure Exchanged (c : Fin 16) (k : Channel) (s t : State) : Prop where
  chans : ∀ d, t.chan d = (s.setChan c k).chan d
  alert : ∀ d, d ∈ t.nu.alert.faulted ↔ if d = c then k.faulted = true else d ∈ s.nu.alert.faulted

/-- A lawful record under a binding that no other channel has; what it transmits it transmitted. -/
theorem ChannelLaw.exchange (h : ChannelLaw s) (hk : k.Lawful)
    (hb : ∀ d, d ≠ c → (s.chan d).config.node = k.config.node → (s.chan d).config.nodeChannel = k.config.nodeChannel → k.bound = false)
    (hw : ∀ d, (t.chan d).transmitting = true → ∃ bytes, t.ci.port = .busy (.channel d) bytes) (e : Exchanged c k s t) : ChannelLaw t := by
  have bound {d : Fin 16} (hd : (s.chan d).config.node = k.config.node) : (s.chan d).bound = k.bound := by simp [Channel.bound, hd]
  refine ⟨fun d => ?_, fun a d ha hn hc => ?_, hw, fun d => ?_⟩
  · rw [e.chans, State.setChan_read]; split
    · exact hk
    · exact h.records d
  · rw [e.chans, State.setChan_read] at ha hn hc
    rw [e.chans, State.setChan_read] at hn hc
    by_cases hac : a = c <;> by_cases hdc : d = c <;> simp only [hac, hdc, if_true, if_false] at ha hn hc
    · rw [hac, hdc]
    · rw [hb d hdc hn.symm hc.symm] at ha; cases ha
    · rw [bound hn, hb a hac hn hc] at ha; cases ha
    · exact h.bindings a d ha hn hc
  · rw [e.alert, e.chans, State.setChan_read]; split
    · rfl
    · exact h.alert d

/-- R113: the binding a channel has is not another's. -/
theorem ChannelLaw.own (h : ChannelLaw s) {n : ChannelConfig} (hn : n.node = (s.chan c).config.node)
    (hc : n.nodeChannel = (s.chan c).config.nodeChannel) (hk : k.config = n) : ∀ d, d ≠ c → (s.chan d).config.node = k.config.node →
    (s.chan d).config.nodeChannel = k.config.nodeChannel → k.bound = false := by
  intro d hd hdn hdc
  rw [hk] at hdn hdc
  have same : k.bound = (s.chan c).bound := by simp [Channel.bound, hk, hn]
  rw [same]
  exact Bool.eq_false_iff.2 fun e => hd (h.bindings c d e (hn ▸ hdn.symm) (hc ▸ hdc.symm)).symm

/-- A channel is written that keeps its configuration; what it transmits it transmitted. -/
theorem ChannelLaw.settle (h : ChannelLaw s) (hk : k.Lawful) (hc : k.config = (s.chan c).config)
    (hw : k.transmitting = true → (s.chan c).transmitting = true) (hp : t.ci.port = s.ci.port) (e : Exchanged c k s t) : ChannelLaw t := by
  refine h.exchange hk (h.own rfl rfl hc) (fun d => ?_) e
  rw [e.chans, State.setChan_read, hp]
  split
  · next e => exact fun ht => h.wire d (e ▸ hw ht)
  · exact h.wire d

/-- The alert record needs no word while a channel stays as faulted as it was. -/
theorem ChannelLaw.untold (h : ChannelLaw s) (hf : k.faulted = (s.chan c).faulted) : Exchanged c k s (s.setChan c k) where
  chans _ := rfl
  alert d := by
    split
    · next e => rw [e, hf]; exact h.alert c
    · rfl

/-- R114: a channel that becomes faulted, or is no longer so, is told to the Note Unit. -/
theorem told_exchanged {u : State} (b : Bool) (hk : k.faulted = b) (hu : ∀ d, u.chan d = (s.setChan c k).chan d)
    (ha : u.nu.alert.faulted = s.nu.alert.faulted) : Exchanged c k s (tellFaulted c b u) where
  chans d := by rw [tellFaulted_chan]; exact hu d
  alert d := by
    rw [hk]
    cases b with
    | true => simp only [tellFaulted, State.withNu_nu, if_true, mem_insertIndex, ha]; split <;> simp_all
    | false => simp only [tellFaulted, State.withNu_nu, Bool.false_eq_true, if_false, mem_removeIndex, ha]; split <;> simp_all

theorem ChannelLaw.setChan (h : ChannelLaw s) (hk : k.Lawful) (hc : k.config = (s.chan c).config)
    (hw : k.transmitting = true → (s.chan c).transmitting = true) (hf : k.faulted = (s.chan c).faulted) : ChannelLaw (s.setChan c k) :=
  h.settle hk hc hw rfl (h.untold hf)

/-! ## Operations -/

theorem tabular_channelLaw : Tabular ChannelLaw where
  desk _ h := h.congr (fun _ => rfl) rfl rfl
  notes e h := h.congr (fun _ => rfl) rfl (by rw [State.withNu_nu, e])
  counters _ h := h.congr (fun _ => rfl) rfl rfl
  sweep _ h := h.congr (fun _ => rfl) rfl rfl
  turns _ h := h.congr (fun _ => rfl) rfl rfl
  queue _ h := h.congr (fun _ => rfl) rfl rfl
  chain {s x} e h := { h with
    wire := fun c hc => by
      obtain ⟨bytes, hb⟩ := h.wire c hc
      obtain e | e := e
      · exact ⟨bytes, e.trans hb⟩
      · exact absurd hb (e c bytes) }

theorem steady_channelLaw : Steady ChannelLaw where
  toTabular := tabular_channelLaw
  reg _ _ _ h := h.congr (fun _ => rfl) rfl rfl
  drive {s r c l} _ _ h := by
    obtain ⟨config, transmitting, faulted⟩ := writeDesired_keeps (s.chan c) l
    exact h.setChan ((h.records c).writeDesired l) config transmitting faulted

theorem ChannelLaw.report {b : Bool} (h : ChannelLaw s) : ChannelLaw (reportEntry c b s) := steady_channelLaw.report h

theorem ChannelLaw.sendChecked (h : ChannelLaw s) : ChannelLaw (s.setChan c (s.chan c).sendCheck) := by
  obtain ⟨config, transmitting, faulted⟩ := sendCheck_keeps (s.chan c)
  exact h.setChan (h.records c).sendCheck config transmitting faulted

/-- R126: a channel that is not faulted enters FAULT and is told faulted. -/
theorem ChannelLaw.enterFault {cause : Nat} (hs : (s.chan c).state ≠ .idle) (h : ChannelLaw s) : ChannelLaw (enterFault c cause s) := by
  have record : ((s.chan c).enterFault (s.startTimer Config.probeMs)).Lawful := (h.records c).enterFault hs rfl
  exact ChannelLaw.report (h.settle record rfl nofun (by simp) (told_exchanged true rfl (fun _ => by simp) (by simp)))

/-- R123, R128: a faulted channel returns to FAULT. -/
theorem ChannelLaw.refault (hs : (s.chan c).state ≠ .idle) (hf : (s.chan c).faulted = true) (h : ChannelLaw s) :
    ChannelLaw (s.setChan c ((s.chan c).enterFault (s.startTimer Config.probeMs))) :=
  h.setChan ((h.records c).enterFault hs rfl) rfl nofun (by rw [hf]; rfl)

theorem ChannelLaw.ackReject (hs : (s.chan c).state ≠ .idle) (h : ChannelLaw s) : ChannelLaw (ackReject c s) := by
  unfold Machine.ackReject
  dsimp only
  split
  · exact h.enterFault hs
  · next hf =>
    have faulted : (s.chan c).faulted = true := by simpa using hf
    split
    · exact h.refault hs faulted
    · exact (h.refault hs faulted).report

/-- What a channel that comes to rest tells: the change of acked to the Override Monitor, the end of a fault to the Note Unit. -/
theorem ChannelLaw.rest {u : State} (h : ChannelLaw s) (hk : k.Lawful) (hs : k.state = .idle)
    (hb : ∀ d, d ≠ c → (s.chan d).config.node = k.config.node → (s.chan d).config.nodeChannel = k.config.nodeChannel → k.bound = false)
    (hu : ∀ d, u.chan d = (s.setChan c k).chan d) (hp : u.ci.port = s.ci.port) (ha : u.nu.alert.faulted = s.nu.alert.faulted)
    (hf : (s.chan c).faulted = false → ChannelLaw u → ChannelLaw t) (ht : (s.chan c).faulted = true → ChannelLaw (tellFaulted c false u) → ChannelLaw t) :
    ChannelLaw t := by
  obtain ⟨probing, -, transmitting⟩ := hk.quiet hs
  have calm : k.faulted = false := by simp [Channel.faulted, hs, probing]
  have wire {v : State} (hv : ∀ d, v.chan d = (s.setChan c k).chan d) (hp : v.ci.port = s.ci.port) (d : Fin 16) :
      (v.chan d).transmitting = true → ∃ bytes, v.ci.port = .busy (.channel d) bytes := by
    rw [hv, State.setChan_read, hp]
    split
    · rw [transmitting]; exact nofun
    · exact h.wire d
  cases was : (s.chan c).faulted with
  | false =>
    refine hf was (h.exchange hk hb (wire hu hp) ⟨hu, fun d => ?_⟩)
    rw [ha]
    exact (h.untold (calm.trans was.symm)).alert d
  | true => exact ht was (h.exchange hk hb (wire hu hp) (told_exchanged false calm hu ha))

/-- R122: an OK acknowledgement. -/
theorem ChannelLaw.ackOk {l : Nat} (hl : l ≤ 1000) (h : ChannelLaw s) : ChannelLaw (ackOk c l s) := by
  have record : ((s.chan c).acknowledge l).Lawful :=
    .resting (h.records c).configured rfl rfl rfl rfl rfl rfl rfl (by rintro _ ⟨⟩; exact hl)
  have recovered : ChannelLaw
      (if (s.chan c).faulted then
        tellFaulted c false (raise .actRecovered (some c.val) l .info (ackedChanged c (s.chan c).acked (s.setChan c ((s.chan c).acknowledge l))))
      else ackedChanged c (s.chan c).acked (s.setChan c ((s.chan c).acknowledge l))) := by
    cases was : (s.chan c).faulted with
    | false =>
      exact h.rest (u := ackedChanged c (s.chan c).acked (s.setChan c ((s.chan c).acknowledge l))) record rfl (h.own rfl rfl rfl)
        (by simp) (by simp) (by simp) (fun _ hu => hu) (fun e => by rw [was] at e; cases e)
    | true =>
      exact h.rest
        (u := raise .actRecovered (some c.val) l .info (ackedChanged c (s.chan c).acked (s.setChan c ((s.chan c).acknowledge l))))
        record rfl (h.own rfl rfl rfl) (by simp) (by simp) (by simp) (fun e => by rw [was] at e; cases e) (fun _ hu => hu)
  unfold Machine.ackOk
  dsimp only
  split
  · exact recovered.sendChecked.report
  · exact recovered.report

/-- R130, R132: a channel returns to IDLE other than by an acknowledgement. -/
theorem ChannelLaw.settleIdleChannel (hk : k.Lawful) (hs : k.state = .idle)
    (hb : ∀ d, d ≠ c → (s.chan d).config.node = k.config.node → (s.chan d).config.nodeChannel = k.config.nodeChannel → k.bound = false)
    (h : ChannelLaw s) : ChannelLaw (settleIdleChannel c (s.chan c) k s) := by
  have cleared : ChannelLaw
      (if (s.chan c).faulted then tellFaulted c false (ackedChanged c (s.chan c).acked (s.setChan c k))
      else ackedChanged c (s.chan c).acked (s.setChan c k)) := by
    refine h.rest (u := ackedChanged c (s.chan c).acked (s.setChan c k)) hk hs hb (by simp) (by simp) (by simp) (fun e hu => ?_) fun e hu => ?_
    · rw [e]; exact hu
    · rw [e]; exact hu
  unfold Machine.settleIdleChannel
  dsimp only
  split
  · exact cleared.sendChecked.report
  · exact cleared.sendChecked

/-- R129, R130: a binding is checked before it is carried out. -/
theorem ChannelLaw.bind {n : ChannelConfig} (hn : n.InRange) (ho : (s.chan c).exchangeOpen = false)
    (hf : n.node = 0 ∨ bindingTaken s c n = false) (h : ChannelLaw s) : ChannelLaw (carryOutBinding c n s) := by
  have wire {x : Channel} (hx : x.transmitting = (s.chan c).transmitting) (d : Fin 16) :
      ((s.setChan c x).chan d).transmitting = true → ∃ bytes, s.ci.port = .busy (.channel d) bytes := by
    rw [State.setChan_read]
    split
    · next e => rw [hx, e]; exact h.wire c
    · exact h.wire d
  unfold carryOutBinding
  dsimp only
  split
  · next e =>
    have record : ((s.chan c).retimed n).Lawful := (h.records c).reconfigure ⟨(h.records c).node, hn.ackTimeout, hn.retryLimit⟩ rfl
    exact h.exchange record (h.own (n := ((s.chan c).retimed n).config) rfl rfl rfl) (wire rfl) (h.untold rfl)
  · split
    · refine h.settleIdleChannel ((h.records c).rebound hn ho) rfl fun d hd hdn hdc => ?_
      obtain hz | hf := hf
      · simp [Channel.bound, Channel.rebound, hz]
      · rw [(bindingTaken_iff n).2 ⟨d, hd, hdn, hdc⟩] at hf; cases hf
    · next e =>
      simp only [Channel.rebinds, Bool.not_eq_true', Bool.not_eq_false, Bool.and_eq_true, decide_eq_true_eq] at e
      obtain ⟨node, nodeChannel⟩ := e
      exact h.exchange ((h.records c).reconfigure hn node.symm) (h.own node.symm nodeChannel.symm rfl) (wire rfl) (h.untold rfl)

theorem ChannelLaw.ack (c : Fin 16) (h : ChannelLaw s) : ChannelLaw (ackExpiry c s) := by
  unfold ackExpiry
  dsimp only
  split
  · next e =>
    simp only [Bool.and_eq_true, decide_eq_true_eq] at e
    have working : (s.chan c).state ≠ .idle := by rw [e.2]; decide
    split
    · next hp => exact (h.refault working (by simp [Channel.faulted, hp])).report
    · split
      · next hr =>
        refine tabular_channelLaw.signal (h.setChan ((h.records c).retry e.2 hr) rfl nofun ?_)
        simp [Channel.faulted, Channel.retry, e.2]
      · exact h.enterFault working
  · exact h

theorem ChannelLaw.probe (c : Fin 16) (h : ChannelLaw s) : ChannelLaw (probeExpiry c s) := by
  unfold probeExpiry
  dsimp only
  split
  · next e =>
    simp only [Bool.and_eq_true, decide_eq_true_eq] at e
    obtain ⟨bound, desired⟩ := (h.records c).working (by rw [e.2]; decide)
    exact h.setChan ((h.records c).opened bound desired (by rw [e.2]; decide)) rfl nofun (by simp [Channel.faulted, e.2])
  · exact h

/-- R119: the channel granted transmits, and no other does while the port carries no SET. -/
theorem ChannelLaw.grantSet (hp : s.ci.port.carriesNoSet) (hw : (s.chan c).waiting = true) (h : ChannelLaw s) : ChannelLaw (grantSet c s) := by
  simp only [Channel.waiting, Bool.and_eq_true, decide_eq_true_eq] at hw
  have record : ({ s.chan c with transmitting := true } : Channel).Lawful := { h.records c with transmitting := fun _ => hw.1 }
  refine h.exchange (t := Machine.grantSet c s) record (h.own rfl rfl rfl) (fun d hd => ?_)
    ⟨fun _ => rfl, (h.untold (k := { s.chan c with transmitting := true }) rfl).alert⟩
  by_cases e : d = c
  · subst e; exact ⟨_, rfl⟩
  · rw [show (Machine.grantSet c s).chan d = s.chan d from State.setChan_ne _ _ e] at hd
    obtain ⟨bytes, hb⟩ := h.wire d hd
    exact absurd hb (hp d bytes)

/-- R120: the port is free again and its channel no longer transmits. -/
theorem ChannelLaw.setDone {bytes : List Byte} (hp : s.ci.port = .busy (.channel c) bytes) (h : ChannelLaw s) :
    ChannelLaw (setDone c (s.withCi { s.ci with port := .free })) := by
  have alone {d : Fin 16} (hd : (s.chan d).transmitting = true) : d = c := by
    obtain ⟨b, hb⟩ := h.wire d hd
    rw [hp] at hb
    cases hb
    rfl
  unfold Machine.setDone
  dsimp only
  split
  · next e =>
    simp only [signal_chan, State.withCi_chan, Bool.and_eq_true, decide_eq_true_eq] at e
    have record := (h.records c).sent e.1
      (timer := (signal .setsSent (s.withCi { s.ci with port := .free })).startTimer (tenMs (s.chan c).config.ackTimeout)) rfl
    have faulted : ({ s.chan c with
        transmitting := false, state := .awaitAck
        ackTimer := (signal .setsSent (s.withCi { s.ci with port := .free })).startTimer (tenMs (s.chan c).config.ackTimeout) }
        : Channel).faulted = (s.chan c).faulted := by simp [Channel.faulted, e.1]
    refine h.exchange record (h.own rfl rfl rfl) (fun d hd => ?_) ⟨fun d => ?_, fun d => ?_⟩
    · by_cases hdc : d = c
      · simp [hdc] at hd
      · rw [State.setChan_ne _ _ hdc, signal_chan, State.withCi_chan] at hd
        exact absurd (alone hd) hdc
    · simp only [State.setChan_read, signal_chan, State.withCi_chan]
    · rw [State.setChan_nu, signal_nu_alert]
      exact (h.untold faulted).alert d
  · next e =>
    refine tabular_channelLaw.signal { h with wire := fun d hd => ?_ }
    obtain rfl : d = c := alone hd
    have sending := (h.records d).transmitting hd
    simp only [signal_chan, State.withCi_chan, Bool.and_eq_true, decide_eq_true_eq] at e
    exact absurd ⟨sending, hd⟩ e

theorem feedbackReading_faulted (i : Fin 256) (f : Int) (r : Fin 32) (s : State) :
    (feedbackReading i f r s).nu.alert.faulted = s.nu.alert.faulted := by
  unfold feedbackReading clearStall
  dsimp only
  (repeat' split) <;> simp [tellStalled]

theorem handFeedback_faulted (i : Fin 256) (f : Int) (s : State) : (handFeedback i f s).nu.alert.faulted = s.nu.alert.faulted := by
  unfold handFeedback
  exact forEachRegulator_field (feedbackReading i f) (fun s => s.nu.alert.faulted) (feedbackReading_faulted i f) s

theorem ChannelLaw.enableSupervisor {r : Fin 32} (h : ChannelLaw s) : ChannelLaw (enableSupervisor r s) :=
  h.congr (fun _ => by simp) (by simp) (by simp)

theorem ChannelLaw.resetSupervisor {r : Fin 32} (h : ChannelLaw s) : ChannelLaw (resetSupervisor r s) :=
  h.congr (fun _ => by simp) (by simp) rfl

theorem apart_channelLaw : Apart ChannelLaw where
  toIncidental := tabular_channelLaw.toIncidental
  om _ h := h.congr (fun _ => rfl) rfl rfl
  told _ h := h.congr (fun _ => rfl) rfl rfl
  point _ _ _ h := h.congr (fun _ => rfl) rfl rfl
  feedback i f h := h.congr (fun _ => by simp) (by simp) (handFeedback_faulted i f _)
  wentStale i h := h.congr (fun _ => by simp) (by simp) (by simp)
  entry _ _ h := steady_channelLaw.driving.entry h
  clearing _ _ h := steady_channelLaw.driving.clearing h

theorem ChannelLaw.restartBlocks (h : ChannelLaw s) : ChannelLaw (restartBlocks s) where
  records c := by
    rw [restartBlocks_chan]
    exact .resting (h.records c).configured rfl rfl rfl rfl rfl rfl rfl nofun
  bindings c d := by rw [restartBlocks_chan, restartBlocks_chan]; exact h.bindings c d
  wire c hc := by rw [restartBlocks_chan] at hc; cases hc
  alert c := by rw [restartBlocks_chan]; simp [Machine.restartBlocks, NoteUnit.restart, NoteUnit.cleared, AlertRecord.clear, Channel.faulted, Channel.restart]

theorem upheld_channelLaw : Upheld ChannelLaw where
  toTabular := tabular_channelLaw
  reading := apart_channelLaw.reporting.reading
  ackOk _ hl h := h.ackOk hl
  ackReject hs h := h.ackReject hs
  grantSet hp hw h := h.grantSet hp hw
  setDone hp h := h.setDone hp
  advance {s} h := {
    records := fun c => by rw [advanceTimebase_chan]; exact (h.records c).marked
    bindings := fun c d => by rw [advanceTimebase_chan, advanceTimebase_chan]; exact h.bindings c d
    wire := fun c => by rw [advanceTimebase_chan]; exact h.wire c
    alert := fun c => by rw [advanceTimebase_chan]; exact h.alert c }
  staleness := apart_channelLaw.reporting.staleness
  period _ h := steady_channelLaw.driving.period h
  hold h := apart_channelLaw.hold h
  window r h := by
    unfold windowExpiry
    split
    · exact tabular_channelLaw.raise (h.congr (fun _ => rfl) rfl rfl)
    · exact h
  ack := ChannelLaw.ack
  probe := ChannelLaw.probe
  visit := apart_channelLaw.reporting.visit
  restart h := steady_channelLaw.restart h.restartBlocks
  clear _ := .of_default (by simp [clearBlocks, State.chan]) rfl
  cold a := (cold_inv a).channels
  holdTime _ h := apart_channelLaw.om _ h
  write _ _ _ h := apart_channelLaw.write (fun _ h => h.congr (fun _ => rfl) rfl rfl) h
  delete _ h := apart_channelLaw.leaveCritical _ (ChannelLaw.congr h (fun _ => rfl) rfl rfl)
  watch := apart_channelLaw.reporting.watch
  configure _ _ _ _ h := steady_channelLaw.driving.participateChange (h.congr (fun _ => rfl) rfl rfl)
  curve _ _ _ h := h.congr (fun _ => rfl) rfl rfl
  enable _ h := ChannelLaw.enableSupervisor (steady_channelLaw.enable h)
  disable r h := ChannelLaw.resetSupervisor (ChannelLaw.congr (tabular_channelLaw.cancelHandover (r := r) h) (fun _ => rfl) rfl rfl)
  manual hl _ h := steady_channelLaw.manual hl h
  taken hl _ h := steady_channelLaw.driving.writeManual (steady_channelLaw.take nofun hl h)
  handover _ hl _ h := steady_channelLaw.take nofun hl h
  level hl _ h := steady_channelLaw.level hl h
  release _ h := steady_channelLaw.release h
  bind hn _ ho hf h := h.bind hn ho hf
  reset c h := h.settleIdleChannel (.resting (h.records c).configured rfl rfl rfl rfl rfl rfl rfl nofun) rfl (h.own rfl rfl rfl)

/-- Settles O9: each write of a record leaves it lawful, under its own binding or a free one, and the alert record told. -/
theorem channelLawIsKept : Obligations.ChannelLawIsKept := fun _ _ h ht => upheld_channelLaw.step h ht

end Sys2Proof.Machine
end

section
/-! Every step keeps the law of the critical set and of the phase (O6): its members, which the points decide, and the rest of it, which the
points do not touch. -/

namespace Sys2Proof.Machine
open Sys2Proof.Claims

variable {s t : State} {r : Fin 32} {i : Fin 256} {g : Regulator} {x : RegulatorState} {l : Nat}

/-! ## The members of the critical set (R94) -/

/-- R94: every member of the critical set may be critical. -/
def MembersCritical (s : State) : Prop := ∀ i ∈ s.om.critical, ∃ p, s.point i = some p ∧ p.mayBeCritical = true

theorem mayBeCritical_iff (p : Point) : p.mayBeCritical = true ↔
    p.config.escalate = true ∧ (p.runtime.band = .critHigh ∨ p.runtime.band = .critLow ∨ p.runtime.band = .stale) := by
  simp [Point.mayBeCritical, or_assoc]

/-- Every member but one may be critical: what holds until that one is reported. -/
def OthersCritical (i : Fin 256) (s : State) : Prop := ∀ j ∈ s.om.critical, j ≠ i → ∃ p, s.point j = some p ∧ p.mayBeCritical = true

theorem MembersCritical.congr (h : MembersCritical s) (hc : t.om.critical = s.om.critical) (hp : ∀ i, t.point i = s.point i) :
    MembersCritical t := fun i hi => by rw [hp]; exact h i (hc ▸ hi)

theorem MembersCritical.others (h : MembersCritical s) (p : Option Point) : OthersCritical i (s.setPoint i p) := fun j hj hne => by
  rw [State.setPoint_ne _ _ hne]; exact h j hj

/-- A record is written that may be critical if its point is a member. -/
theorem MembersCritical.setPoint (h : MembersCritical s) {p : Point} (hp : i ∈ s.om.critical → p.mayBeCritical = true) :
    MembersCritical (s.setPoint i (some p)) := fun j hj => by
  by_cases e : j = i
  · subst e; exact ⟨p, State.setPoint_self .., hp hj⟩
  · exact h.others _ j hj e

/-- The record of a member may be critical. -/
theorem MembersCritical.record (h : MembersCritical s) {p : Point} (hp : s.point i = some p) (hi : i ∈ s.om.critical) :
    p.mayBeCritical = true := by
  obtain ⟨p', hp', hm⟩ := h i hi
  rw [hp] at hp'
  cases hp'
  exact hm

/-- R95, R96: the point that leaves need not be critical. -/
theorem OthersCritical.leave (h : OthersCritical i s) : MembersCritical (leaveCritical i s) := fun j hj => by
  obtain ⟨hj, hne⟩ := (mem_leaveCritical j i s).1 hj
  rw [leaveCritical_point]
  exact h j hj hne

theorem overrideEntry_critical (p : Fin 256) (s : State) : (overrideEntry p s).om.critical = s.om.critical := by
  unfold overrideEntry
  have kept : ∀ u : State, (forEachRegulator entryNotice u).om = u.om := forEachRegulator_field entryNotice State.om fun r u => by simp
  rw [kept]
  simp

/-- R95: the point that joins may be critical. -/
theorem MembersCritical.join (h : MembersCritical s) {p : Point} (hp : s.point i = some p) (hm : p.mayBeCritical = true) :
    MembersCritical (joinCritical i s) := by
  have joined : ∀ j ∈ (joinCritical i s).om.critical, j = i ∨ j ∈ s.om.critical := by
    intro j
    unfold joinCritical
    dsimp only
    (repeat' split)
    · exact .inr
    · rw [overrideEntry_critical, State.withOm_om]; exact (mem_insertIndex i j _).1
    · exact (mem_insertIndex i j _).1
    · exact (mem_insertIndex i j _).1
    · exact (mem_insertIndex i j _).1
  intro j hj
  rw [joinCritical_point]
  obtain rfl | hj := joined j hj
  · exact ⟨p, hp, hm⟩
  · exact h j hj

theorem tabular_members : Tabular MembersCritical where
  desk _ h := h
  notes _ h := h
  counters _ h := h
  sweep _ h := h
  turns _ h := h
  queue _ h := h
  chain _ h := h

theorem steady_members : Steady MembersCritical where
  toTabular := tabular_members
  reg _ _ _ h := h
  drive _ _ h := h

theorem calm_members : Calm MembersCritical where
  toIncidental := tabular_members.toIncidental
  chan _ _ _ h := h
  marks h := h
  sup _ _ h := h
  alert _ h := h
  report _ _ h := steady_members.report h

/-- R26, R51, R95: the report of the new band settles the point's place in the set. -/
theorem MembersCritical.reading {p : Point} (raw : Int) (hp : s.point i = some p) (h : MembersCritical s) :
    MembersCritical (acceptReading i p raw s).1 := by
  have measured {old new : Band} {f : Int} (ho : old = p.runtime.band) (hn : new = (p.measured raw s.timebase).runtime.band) :
      MembersCritical (handBandOn i p.config old new f (s.setPoint i (some (p.measured raw s.timebase)))) := by
    have defined : new ≠ .stale := by rw [hn]; exact (nextBand_defined _ _ _ _).2
    have may : (p.measured raw s.timebase).mayBeCritical = true ↔ p.config.escalate = true ∧ (new = .critHigh ∨ new = .critLow) := by
      rw [mayBeCritical_iff, ← hn]
      simp only [defined, or_false]
      rfl
    have reported {u : State} (hc : u.om.critical = s.om.critical)
        (hu : ∀ j, u.point j = (s.setPoint i (some (p.measured raw s.timebase))).point j) :
        MembersCritical (if reportsBand p.config old new then reportBand i new u else u) := by
      have written : (i ∈ s.om.critical → (p.measured raw s.timebase).mayBeCritical = true) → MembersCritical u := fun hm =>
        MembersCritical.congr (h.setPoint hm) hc hu
      split
      · next hr =>
        obtain ⟨escalate, -, -⟩ := reportsBand_iff.1 hr
        by_cases hb : new = .critHigh ∨ new = .critLow
        · rw [reportBand_critical hb]
          exact (written fun _ => may.2 ⟨escalate, hb⟩).join (by rw [hu, State.setPoint_self]) (may.2 ⟨escalate, hb⟩)
        · rw [reportBand_other (fun e => hb (.inl e)) (fun e => hb (.inr e))]
          refine OthersCritical.leave fun j hj hne => ?_
          rw [hu]
          exact h.others _ j (by rw [State.setPoint_om, ← hc]; exact hj) hne
      · next hr =>
        refine written fun hi => may.2 ?_
        obtain ⟨escalate, hb⟩ := (mayBeCritical_iff p).1 (h.record hp hi)
        refine ⟨escalate, ?_⟩
        have quiet := mt reportsBand_iff.2 hr
        rw [← ho] at hb
        grind
    unfold handBandOn
    dsimp only
    refine calm_members.feedback _ _ ?_
    cases raisesBandNote p.config old new with
    | true => exact reported (by simp) (by simp)
    | false => exact reported (by simp) (by simp)
  have decided {old new : Band} {f f' c : Int} {kept : Bool} (ho : old = p.runtime.band)
      (hn : new = (p.measured raw s.timebase).runtime.band) :
      MembersCritical ((handBandOn i p.config old new f (s.setPoint i (some (p.measured raw s.timebase)))).setPoint i
        (some ((p.measured raw s.timebase).decided f' c kept))) := by
    refine (measured ho hn).setPoint fun hi => ?_
    have record := (measured (f := f) ho hn).record (p := p.measured raw s.timebase) (by rw [handBandOn_point, State.setPoint_self]) hi
    rw [mayBeCritical_iff] at record ⊢
    have same : ((p.measured raw s.timebase).decided f' c kept).runtime.band = (p.measured raw s.timebase).runtime.band := by
      unfold Point.decided PointRuntime.forwarded
      (repeat' split) <;> rfl
    rw [same]
    exact record
  unfold acceptReading
  dsimp only
  split <;> split
  · exact tabular_members.raise (decided rfl rfl)
  · exact decided rfl rfl
  · exact tabular_members.signal (tabular_members.raise (decided rfl rfl))
  · exact tabular_members.signal (decided rfl rfl)

/-- A record is rewritten that still may be critical if it might before. -/
theorem MembersCritical.rewrite {p q : Point} (h : MembersCritical s) (hp : s.point i = some p)
    (hq : p.mayBeCritical = true → q.mayBeCritical = true) : MembersCritical (s.setPoint i (some q)) :=
  h.setPoint fun hi => hq (h.record hp hi)

/-- R96: a point that goes STALE stays a member. -/
theorem MembersCritical.staleness (i : Fin 256) (h : MembersCritical s) : MembersCritical (stalenessExpiry i s) := by
  unfold stalenessExpiry
  split
  · exact h
  · next p hp =>
    have staled : MembersCritical (s.setPoint i (some p.wentStale)) := h.rewrite hp fun hm =>
      (mayBeCritical_iff _).2 ⟨((mayBeCritical_iff p).1 hm).1, .inr (.inr rfl)⟩
    dsimp only
    (repeat' split)
    · exact calm_members.wentStale _ (tabular_members.raise staled)
    · exact calm_members.wentStale _ staled
    · exact h

theorem MembersCritical.visit (d : Sweep) (i : Fin 256) (h : MembersCritical s) : MembersCritical (visitRecord d i s) := by
  unfold visitRecord
  split
  · exact h
  · next p hp =>
    dsimp only
    split
    · exact (h.others _).leave
    · next hr =>
      refine h.rewrite hp fun hm => ?_
      unfold Point.visited
      dsimp only
      rw [if_neg hr]
      split
      · exact hm
      · exact hm

/-- R35 to R37: a point leaves the set with its key or its escalate flag. -/
theorem MembersCritical.write {c : PointConfig} (h : MembersCritical s) : MembersCritical (carryOutWrite i c s) := by
  unfold carryOutWrite
  split
  · next hp =>
    refine h.setPoint fun hi => ?_
    obtain ⟨p, hp', -⟩ := h i hi
    rw [hp] at hp'
    cases hp'
  · next p hp =>
    split
    · dsimp only
      split
      · next he => exact h.rewrite hp fun hm => (mayBeCritical_iff _).2 ⟨he, ((mayBeCritical_iff p).1 hm).2⟩
      · exact (h.others _).leave
    · exact (h.others _).leave

theorem MembersCritical.of_empty (h : s.om.critical = []) : MembersCritical s := fun i hi => by rw [h] at hi; cases hi

theorem upheld_members : Upheld MembersCritical where
  toTabular := tabular_members
  reading := MembersCritical.reading
  ackOk _ _ h := calm_members.ackOk h
  ackReject _ h := calm_members.ackReject h
  grantSet _ _ h := calm_members.grantSet (fun _ h => h) h
  setDone _ h := calm_members.setDone (h)
  advance h := calm_members.marks h
  staleness := MembersCritical.staleness
  period _ h := steady_members.driving.period h
  hold {s} h := by
    unfold holdExpiry
    split
    · exact h.congr (overrideClearing_critical s) fun _ => by simp
    · exact h
  window := calm_members.window
  ack := calm_members.ack
  probe := calm_members.probe
  visit := MembersCritical.visit
  restart _ := steady_members.restart (.of_empty rfl)
  clear _ := .of_empty rfl
  cold _ := .of_empty rfl
  holdTime _ h := h
  write _ _ _ h := h.write
  delete _ h := OthersCritical.leave (h.others _)
  watch hp _ h := h.rewrite hp id
  configure _ _ _ _ h := steady_members.driving.participateChange h
  curve _ _ _ h := h
  enable _ h := calm_members.enableSupervisor (steady_members.enable h)
  disable r h := calm_members.resetSupervisor (tabular_members.cancelHandover (r := r) h)
  manual hl _ h := steady_members.manual hl h
  taken hl _ h := steady_members.driving.writeManual (steady_members.take nofun hl h)
  handover _ hl _ h := steady_members.take nofun hl h
  level hl _ h := steady_members.level hl h
  release _ h := steady_members.release h
  bind _ he _ _ h := calm_members.bind he h
  reset := calm_members.reset

end Sys2Proof.Machine
end

section
/-! The rest of the law of the critical set and of the phase, which reads no point, and the law itself (O6). -/

namespace Sys2Proof.Machine
open Sys2Proof.Claims

variable {s t : State} {r : Fin 32} {i : Fin 256} {g : Regulator} {x : RegulatorState} {l : Nat}

/-- The law of the critical set and of the phase but for its members. -/
structure PhaseLaw (s : State) : Prop where
  once : s.om.critical.Nodup
  ascending : s.om.critical.Pairwise (· < ·)
  active : s.om.phase = .active ↔ s.om.critical ≠ []
  hold : s.om.holdTimer.isSome ↔ s.om.phase = .holding
  start : s.om.startTime.isSome ↔ s.om.phase ≠ .clear
  regulators : ∀ r, (s.reg r).state = .override → s.om.phase ≠ .clear ∧ (s.reg r).config.participate = true
  alert : s.nu.alert.override = true ↔ s.om.phase ≠ .clear

theorem overrideLaw_iff (s : State) : OverrideLaw s ↔ PhaseLaw s ∧ MembersCritical s :=
  ⟨fun h => ⟨{ h with }, h.members⟩, fun ⟨h, hm⟩ => { h with members := hm }⟩

/-- The Override Monitor, and what the alert record holds of it, stand as in `s`. -/
def SamePhase (s t : State) : Prop := t.om = s.om ∧ t.nu.alert.override = s.nu.alert.override

theorem tabular_samePhase (s : State) : Tabular (SamePhase s) where
  desk _ h := h
  notes e h := ⟨h.1, by rw [State.withNu_nu, e]; exact h.2⟩
  counters _ h := h
  sweep _ h := h
  turns _ h := h
  queue _ h := h
  chain _ h := h

theorem steady_samePhase (s : State) : Steady (SamePhase s) where
  toTabular := tabular_samePhase s
  reg _ _ _ h := h
  drive _ _ h := h

/-- The phase stays, and with it every regulator in OVERRIDE but perhaps one. -/
theorem PhaseLaw.keep (h : PhaseLaw s) (same : SamePhase s t) (others : ∀ q, q ≠ r → t.reg q = s.reg q)
    (self : (t.reg r).state = .override → s.om.phase ≠ .clear ∧ (t.reg r).config.participate = true) : PhaseLaw t := by
  obtain ⟨om, alert⟩ := same
  refine ⟨om ▸ h.once, om ▸ h.ascending, om ▸ h.active, om ▸ h.hold, om ▸ h.start, fun q hq => ?_, om ▸ alert ▸ h.alert⟩
  rw [om]
  by_cases e : q = r
  · subst e; exact self hq
  · rw [others q e] at hq ⊢; exact h.regulators q hq

/-- Nothing that the law reads changes. -/
theorem PhaseLaw.congr (h : PhaseLaw s) (same : SamePhase s t) (regs : ∀ r, t.reg r = s.reg r) : PhaseLaw t :=
  h.keep (r := 0) same (fun q _ => regs q) fun e => by rw [regs] at e ⊢; exact h.regulators 0 e

theorem PhaseLaw.setReg (h : PhaseLaw s) (hg : g.state = .override → s.om.phase ≠ .clear ∧ g.config.participate = true) :
    PhaseLaw (s.setReg r g) :=
  h.keep ⟨rfl, rfl⟩ (fun _ hq => State.setReg_ne _ _ hq) (by rw [State.setReg_self]; exact hg)

/-- A record is written with its state and its participation as they were. -/
theorem PhaseLaw.move (h : PhaseLaw s) (hs : g.state = (s.reg r).state) (hp : g.config.participate = (s.reg r).config.participate) :
    PhaseLaw (s.setReg r g) := h.setReg fun e => by rw [hp]; exact h.regulators r (hs ▸ e)

theorem Steers.others (st : Steers r x l s t) {q : Fin 32} (hq : q ≠ r) : t.reg q = s.reg q := by
  obtain ⟨b, regs⟩ := st.regs
  rw [regs, State.setReg_ne _ _ hq]

theorem Steers.self (st : Steers r x l s t) : (t.reg r).state = x ∧ (t.reg r).config = (s.reg r).config := by
  obtain ⟨b, regs⟩ := st.regs
  rw [regs, State.setReg_self]
  exact ⟨rfl, rfl⟩

/-- R80: a regulator that comes under control enters OVERRIDE only outside CLEAR and if it participates; `u` differs from `s` in its
record only. -/
theorem PhaseLaw.steer {u : State} (h : PhaseLaw s) (before : ∀ q, q ≠ r → u.reg q = s.reg q) (st : Steers r x l u t)
    (hx : x = .override → s.om.phase ≠ .clear ∧ (u.reg r).config.participate = true) (same : SamePhase s t) : PhaseLaw t := by
  obtain ⟨state, config⟩ := st.self
  exact h.keep same (fun q hq => (st.others hq).trans (before q hq)) fun e => by rw [config]; exact hx (state ▸ e)

theorem PhaseLaw.evaluate {u : State} {notes : Bool} (h : PhaseLaw s) (before : ∀ q, q ≠ r → u.reg q = s.reg q) (same : SamePhase s u) :
    PhaseLaw (evaluate notes r u) := by
  obtain ⟨x, l, hx, st⟩ := evaluate_steers notes r u
  refine h.steer before st (fun e => ?_) ((steady_samePhase s).driving.evaluate same)
  obtain rfl | rfl := hx <;> cases e

theorem PhaseLaw.assertCeiling (h : PhaseLaw s) (hp : s.om.phase ≠ .clear) (hg : (s.reg r).config.participate = true) :
    PhaseLaw (assertCeiling r s) :=
  h.steer (fun _ _ => rfl) (assertCeiling_steers r s) (fun _ => ⟨hp, hg⟩) ((steady_samePhase s).driving.assertCeiling ⟨rfl, rfl⟩)

theorem PhaseLaw.resumeControl (h : PhaseLaw s) : PhaseLaw (resumeControl r s) := by
  obtain ⟨x, l, hx, st⟩ := resumeControl_steers r s
  exact h.steer (fun _ _ => rfl) st hx ((steady_samePhase s).driving.resumeControl ⟨rfl, rfl⟩)

theorem PhaseLaw.startPeriod (h : PhaseLaw s) : PhaseLaw (startPeriod r s) := h.move rfl rfl

theorem PhaseLaw.writeManual (h : PhaseLaw s) : PhaseLaw (writeManual r s) :=
  h.congr ((steady_samePhase s).driving.writeManual ⟨rfl, rfl⟩) fun _ => by simp

theorem tabular_phaseLaw : Tabular PhaseLaw where
  desk _ h := h.congr ⟨rfl, rfl⟩ fun _ => rfl
  notes {s u} e h := h.congr ⟨rfl, by rw [State.withNu_nu, e]⟩ fun _ => rfl
  counters _ h := h.congr ⟨rfl, rfl⟩ fun _ => rfl
  sweep _ h := h.congr ⟨rfl, rfl⟩ fun _ => rfl
  turns _ h := h.congr ⟨rfl, rfl⟩ fun _ => rfl
  queue _ h := h.congr ⟨rfl, rfl⟩ fun _ => rfl
  chain _ h := h.congr ⟨rfl, rfl⟩ fun _ => rfl

/-- R140: a handover ends in MANUAL. -/
theorem PhaseLaw.report {c : Fin 16} {b : Bool} (h : PhaseLaw s) : PhaseLaw (reportEntry c b s) := by
  have completed (r : Fin 32) : PhaseLaw (completeHandover r b s) := by
    have manual : PhaseLaw (s.setReg r { s.reg r with state := .manual, handover := none }) := h.setReg nofun
    unfold completeHandover
    dsimp only
    split
    · exact manual.writeManual
    · exact tabular_phaseLaw.completeEntry manual.writeManual
  unfold reportEntry
  (repeat' split)
  · exact h
  · exact completed _
  · exact h

theorem calm_phaseLaw : Calm PhaseLaw where
  toIncidental := tabular_phaseLaw.toIncidental
  chan _ _ _ h := h.congr ⟨rfl, rfl⟩ fun _ => rfl
  marks h := h.congr ⟨rfl, rfl⟩ fun _ => rfl
  sup _ _ h := h.congr ⟨rfl, rfl⟩ fun _ => rfl
  alert e h := h.congr ⟨rfl, by rw [State.withNu_nu, e]⟩ fun _ => rfl
  report _ _ h := h.report

/-! ## The phases (R98 to R101) -/

/-- R80: outside CLEAR the entry notice is lawful. -/
theorem PhaseLaw.entryNotice (h : PhaseLaw s) (hp : s.om.phase ≠ .clear) : PhaseLaw (entryNotice r s) := by
  unfold Machine.entryNotice
  dsimp only
  split
  · next e =>
    rw [Bool.and_eq_true] at e
    exact h.assertCeiling hp e.2
  · exact h

theorem insertIndex_pairwise {n : Nat} (i : Fin n) (l : List (Fin n)) : (insertIndex i l).Pairwise (· < ·) :=
  (List.pairwise_lt_finRange n).filter _

theorem insertIndex_once {n : Nat} (i : Fin n) (l : List (Fin n)) : (insertIndex i l).Nodup := (List.nodup_finRange n).filter _

/-- R99: the phase opens. -/
theorem PhaseLaw.overrideEntry (p : Fin 256) (h : PhaseLaw s) (hc : s.om.phase = .clear) :
    PhaseLaw (overrideEntry p (s.withOm { s.om with critical := [p] })) := by
  have calm (r : Fin 32) : (s.reg r).state ≠ .override := fun e => (h.regulators r e).1 hc
  have opened : PhaseLaw (tellOverride true (s.withOm { s.om with critical := [p], phase := .active, startTime := some s.timebase })) := {
    once := List.nodup_singleton _
    ascending := List.pairwise_singleton _ _
    active := by simp [tellOverride]
    hold := by
      have stopped : ¬ s.om.holdTimer.isSome = true := fun e => by rw [h.hold.1 e] at hc; cases hc
      simpa [tellOverride] using stopped
    start := by simp [tellOverride]
    regulators := fun r e => absurd e (calm r)
    alert := by simp [tellOverride] }
  have noticed := forEachRegulator_keeps Machine.entryNotice (fun u => PhaseLaw u ∧ u.om.phase ≠ .clear)
    (fun r u ⟨hu, hp⟩ => ⟨hu.entryNotice hp, by simpa using hp⟩)
    (s := raise .overrideOn none p.val .crit
      (tellOverride true (s.withOm { s.om with critical := [p], phase := .active, startTime := some s.timebase })))
    ⟨tabular_phaseLaw.raise opened, by simp⟩
  exact noticed.1

theorem PhaseLaw.join (i : Fin 256) (h : PhaseLaw s) : PhaseLaw (joinCritical i s) := by
  by_cases hi : i ∈ s.om.critical
  · rw [joinCritical_member hi]; exact h
  · by_cases hc : s.om.critical = []
    · rw [joinCritical_first hc]
      split
      · next e => exact h.overrideEntry i e
      · next e => exact {
          once := List.nodup_singleton _
          ascending := List.pairwise_singleton _ _
          active := by simp [overrideReentry, tellOverride]
          hold := by simp [overrideReentry, tellOverride]
          start := by simpa [overrideReentry, tellOverride] using h.start.2 e
          regulators := fun r he => ⟨nofun, (h.regulators r he).2⟩
          alert := by simp [overrideReentry, tellOverride] }
    · rw [joinCritical_more hi hc]
      exact { h with
        once := insertIndex_once _ _
        ascending := insertIndex_pairwise _ _
        active := by simpa [insertIndex_ne_nil] using h.active.2 hc }

/-- R81: the clearing notices leave no regulator in OVERRIDE. -/
theorem forEachClearing_state (s : State) (r : Fin 32) : ((forEachRegulator clearingNotice s).reg r).state ≠ .override := by
  have other (q : Fin 32) (u : State) (hq : q ≠ r) : (clearingNotice q u).reg r = u.reg r := by
    unfold clearingNotice
    split
    · obtain ⟨x, l, -, st⟩ := evaluate_steers true q u
      exact st.others hq.symm
    · rfl
  obtain ⟨u, -, -, after⟩ := forEachRegulator_at (f := clearingNotice) (P := fun _ => True) (fun _ _ _ => trivial) (fun t => t.reg r) r
    (fun q u hq _ => other q u hq) (s := s) trivial
  rw [after]
  unfold clearingNotice
  split
  · obtain ⟨x, l, hx, st⟩ := evaluate_steers true r u
    rw [st.self.1]
    obtain rfl | rfl := hx <;> decide
  · next e => exact e

/-- R101: with no member left the phase is CLEAR, and no regulator stands in OVERRIDE. -/
theorem PhaseLaw.overrideClearing (hc : s.om.critical = []) : PhaseLaw (overrideClearing s) := by
  have same : SamePhase (tellOverride false (s.withOm { s.om with phase := .clear, holdTimer := none, startTime := none }))
      (Machine.overrideClearing s) := by
    refine forEachRegulator_keeps clearingNotice _ (fun r u => (steady_samePhase _).driving.clearing) ?_
    exact (tabular_samePhase _).raise ⟨rfl, rfl⟩
  obtain ⟨om, alert⟩ := same
  have cleared : (Machine.overrideClearing s).om = { s.om with phase := .clear, holdTimer := none, startTime := none } := om
  refine ⟨?_, ?_, ?_, ?_, ?_, fun r e => absurd e (forEachClearing_state _ r), ?_⟩
  · simp [cleared, hc]
  · simp [cleared, hc]
  · simp [cleared, hc]
  · simp [cleared]
  · simp [cleared]
  · rw [alert]; simp [cleared, tellOverride]

/-- R100: the last member gone, the phase holds. -/
theorem PhaseLaw.holdStart (h : PhaseLaw s) (hp : s.om.phase = .active) : PhaseLaw (holdStart (s.withOm { s.om with critical := [] })) where
  once := List.nodup_nil
  ascending := List.Pairwise.nil
  active := by simp [Machine.holdStart, tellOverride]
  hold := by simp [Machine.holdStart, tellOverride, State.startTimer]
  start := by simpa [Machine.holdStart, tellOverride] using h.start.2 (by rw [hp]; decide)
  regulators r he := ⟨nofun, (h.regulators r he).2⟩
  alert := by simp [Machine.holdStart, tellOverride]

theorem PhaseLaw.leave (i : Fin 256) (h : PhaseLaw s) : PhaseLaw (leaveCritical i s) := by
  by_cases hi : i ∈ s.om.critical
  · have active : s.om.phase = .active := h.active.2 (List.ne_nil_of_mem hi)
    rw [leaveCritical_member hi]
    dsimp only
    split
    · next e =>
      rw [show removeIndex i s.om.critical = [] from e]
      split
      · exact h.holdStart active
      · exact .overrideClearing rfl
    · next e => exact { h with
        once := h.once.filter _
        ascending := h.ascending.filter _
        active := ⟨fun _ => e, fun _ => active⟩ }
  · rw [leaveCritical_other hi]; exact h

theorem reporting_phaseLaw : Reporting PhaseLaw where
  toIncidental := tabular_phaseLaw.toIncidental
  point _ _ _ h := h.congr ⟨rfl, rfl⟩ fun _ => rfl
  feedback := calm_phaseLaw.feedback
  wentStale := calm_phaseLaw.wentStale
  join := PhaseLaw.join
  leave := PhaseLaw.leave

theorem PhaseLaw.setPoint (p : Option Point) (h : PhaseLaw s) : PhaseLaw (s.setPoint i p) := h.congr ⟨rfl, rfl⟩ fun _ => rfl

theorem PhaseLaw.write {c : PointConfig} (h : PhaseLaw s) : PhaseLaw (carryOutWrite i c s) := by
  unfold carryOutWrite; dsimp only; (repeat' split)
  · exact h.setPoint _
  · exact h.setPoint _
  · exact (h.setPoint _).leave _
  · exact (h.setPoint _).leave _

/-! ## Regulators -/

/-- R71: in OVERRIDE the ceiling is asserted again. -/
theorem PhaseLaw.period (r : Fin 32) (h : PhaseLaw s) : PhaseLaw (periodExpiry r s) := by
  have evaluated : PhaseLaw (Machine.evaluate true r s) := h.evaluate (fun _ _ => rfl) ⟨rfl, rfl⟩
  unfold periodExpiry
  dsimp only
  (repeat' split)
  · exact evaluated.startPeriod
  · exact evaluated.startPeriod
  · next e =>
    obtain ⟨phase, participates⟩ := h.regulators r e
    exact (h.assertCeiling phase participates).startPeriod
  all_goals exact h

/-- R82: a regulator in OVERRIDE that no longer participates leaves it. -/
theorem PhaseLaw.configure {c : RegulatorConfig} (h : PhaseLaw s) :
    PhaseLaw (participateChange r (s.reg r) c (s.setReg r { s.reg r with config := c })) := by
  have kept (hk : (s.reg r).state = .override → c.participate = true) : PhaseLaw (s.setReg r { s.reg r with config := c }) :=
    h.setReg fun e => ⟨(h.regulators r e).1, hk e⟩
  unfold participateChange
  split
  · split
    · exact h.evaluate (fun q hq => State.setReg_ne _ _ hq) ⟨rfl, rfl⟩
    · next e => exact kept fun e' => absurd e' e
  · next hn =>
    split
    · next hp =>
      simp only [Bool.and_eq_true] at hp
      split
      · next e =>
        simp only [Bool.and_eq_true, overriding, bne_iff_ne] at e
        exact (kept fun _ => hp.2).assertCeiling e.2 (by rw [State.setReg_self]; exact hp.2)
      · exact kept fun _ => hp.2
    · refine kept fun e => ?_
      have participates := (h.regulators r e).2
      simpa [participates] using hn

theorem PhaseLaw.of_clear {k : Nat} (h : s.om = OverrideMonitor.cleared k) (hr : ∀ r, (s.reg r).state ≠ .override)
    (alert : s.nu.alert.override = false) : PhaseLaw s := ((overrideLaw_iff s).1 (.of_clear h hr alert)).1

/-- R92, R111: after RESTART the phase is CLEAR, and every regulator under control stands in FAILSAFE. -/
theorem PhaseLaw.restart (s : State) : PhaseLaw (forEachRegulator restartRegulator (restartBlocks s)) := by
  have fresh := restartBlocks_noneFresh s
  have blocks := (forEachRestart _ fresh).blocks
  refine .of_clear (k := s.om.holdTime) (by rw [blocks]; rfl) (fun r => ?_) (by rw [blocks]; rfl)
  rw [forEachRestart_reg fresh, Regulator.restarted]
  have never (g : Regulator) (now : Time) : (g.restarted now).state ≠ .override := by
    unfold Regulator.restarted Regulator.restart
    cases g.state <;> simp
  exact never _ _

theorem upheld_phaseLaw : Upheld PhaseLaw where
  toTabular := tabular_phaseLaw
  reading := reporting_phaseLaw.reading
  ackOk _ _ h := calm_phaseLaw.ackOk h
  ackReject _ h := calm_phaseLaw.ackReject h
  grantSet _ _ h := calm_phaseLaw.grantSet (fun _ h => h.congr ⟨rfl, rfl⟩ fun _ => rfl) h
  setDone _ h := calm_phaseLaw.setDone (h.congr ⟨rfl, rfl⟩ fun _ => rfl)
  advance h := calm_phaseLaw.marks h
  staleness := reporting_phaseLaw.staleness
  period := PhaseLaw.period
  hold {s} h := by
    unfold holdExpiry
    split
    · next e =>
      simp only [Bool.and_eq_true, decide_eq_true_eq] at e
      refine .overrideClearing (not_not.1 fun hc => ?_)
      rw [h.active.2 hc] at e
      exact absurd e.2 (by decide)
    · exact h
  window := calm_phaseLaw.window
  ack := calm_phaseLaw.ack
  probe := calm_phaseLaw.probe
  visit := reporting_phaseLaw.visit
  restart {s} _ := .restart s
  clear {s} _ := .of_clear (k := s.om.holdTime) rfl (by simp [clearBlocks, State.reg, Regulator.default]) rfl
  cold a := ((overrideLaw_iff _).1 (cold_inv a).override).1
  holdTime _ h := { h with }
  write _ _ _ h := h.write
  delete _ h := (h.setPoint _).leave _
  watch _ _ h := h.setPoint _
  configure _ _ _ _ h := h.configure
  curve _ _ _ h := h.move rfl rfl
  enable {s r} _ h := by
    have readied : PhaseLaw (s.setReg r (s.reg r).readied) := h.move rfl rfl
    exact calm_phaseLaw.enableSupervisor readied.resumeControl.startPeriod
  disable r h := calm_phaseLaw.resetSupervisor (PhaseLaw.setReg (tabular_phaseLaw.cancelHandover (r := r) h) nofun)
  manual {s r l} _ _ h := by
    have written : PhaseLaw (s.setReg r { s.reg r with manualLevel := some l }) := h.move rfl rfl
    exact written.writeManual
  taken _ _ h := PhaseLaw.writeManual (h.setReg nofun)
  handover _ _ _ h := h.setReg nofun
  level _ _ h := h.move rfl rfl
  release {s r} _ h := by
    have cancelled : PhaseLaw (cancelHandover r s) := tabular_phaseLaw.cancelHandover h
    have released : PhaseLaw ((cancelHandover r s).setReg r ((cancelHandover r s).reg r).released) := cancelled.move rfl rfl
    exact released.resumeControl.startPeriod
  bind _ he _ _ h := calm_phaseLaw.bind he h
  reset := calm_phaseLaw.reset

/-- Settles O6: the members by the points, the rest by the phase. -/
theorem overrideLawIsKept : Obligations.OverrideLawIsKept := by
  intro s t h ht
  obtain ⟨phase, members⟩ := (overrideLaw_iff s).1 h
  exact (overrideLaw_iff t).2 ⟨upheld_phaseLaw.step phase ht, upheld_members.step members ht⟩

end Sys2Proof.Machine
end

section
/-! The requests that are answered at once: what their owners keep, walked once. -/

namespace Sys2Proof.Machine
open Sys2Proof.Claims

variable {s t u : State} {q : Request}

/-! ## Owners that answer at once -/

/-- An answer given at once. -/
def Verdict.answers : Verdict → Prop
  | .reply _ _ => True
  | .deferred | .reading _ => False


/-- Whatever is asked, the owner answers at once. -/
def Answers (owner : Owner) : Prop := ∀ q s, (owner q s).2.answers

theorem ownIdentify_answers : Answers ownIdentify := fun _ _ => trivial
theorem ownMalformed_answers : Answers ownMalformed := fun _ _ => trivial
theorem ownReadCounters_answers : Answers ownReadCounters := fun _ _ => trivial
theorem ownRestart_answers : Answers ownRestart := fun _ _ => trivial
theorem ownClearAll_answers : Answers ownClearAll := fun _ _ => trivial
theorem ownBind_answers : Answers ownBind := fun q s => by unfold ownBind; (repeat' split) <;> trivial
theorem ownUnbind_answers : Answers ownUnbind := fun q s => by unfold ownUnbind; (repeat' split) <;> trivial
theorem ownSetChain_answers : Answers ownSetChain := fun q s => by unfold ownSetChain; dsimp only; split <;> trivial
theorem ownSetOverride_answers : Answers ownSetOverride := fun q s => by unfold ownSetOverride; dsimp only; split <;> trivial
theorem ownReadPoint_answers : Answers ownReadPoint := fun q s => by unfold ownReadPoint; split <;> trivial
theorem ownWritePoint_answers : Answers ownWritePoint := fun q s => by unfold ownWritePoint; dsimp only; (repeat' split) <;> trivial
theorem ownDeletePoint_answers : Answers ownDeletePoint := fun q s => by unfold ownDeletePoint; dsimp only; (repeat' split) <;> trivial
theorem ownFindPoint_answers : Answers ownFindPoint := fun q s => by unfold ownFindPoint; (repeat' split) <;> trivial
theorem ownSetWatch_answers : Answers ownSetWatch := fun q s => by unfold ownSetWatch; dsimp only; (repeat' split) <;> trivial
theorem ownClearWatch_answers : Answers ownClearWatch := fun q s => by unfold ownClearWatch; dsimp only; split <;> trivial
theorem ownWriteRegulator_answers : Answers ownWriteRegulator := fun q s => by
  unfold ownWriteRegulator; dsimp only; (repeat' split) <;> trivial
theorem ownWriteCurve_answers : Answers ownWriteCurve := fun q s => by unfold ownWriteCurve; dsimp only; (repeat' split) <;> trivial
theorem ownReadRegulator_answers : Answers ownReadRegulator := fun q s => by
  unfold ownReadRegulator; (repeat' split) <;> trivial
theorem ownEnableRegulator_answers : Answers ownEnableRegulator := fun q s => by unfold ownEnableRegulator; (repeat' split) <;> trivial
theorem ownDisableRegulator_answers : Answers ownDisableRegulator := fun q s => by unfold ownDisableRegulator; split <;> trivial
theorem ownSetManualLevel_answers : Answers ownSetManualLevel := fun q s => by
  unfold ownSetManualLevel setManualAt; (repeat' split) <;> trivial
theorem ownReleaseManual_answers : Answers ownReleaseManual := fun q s => by unfold ownReleaseManual; (repeat' split) <;> trivial
theorem ownWriteActuator_answers : Answers ownWriteActuator := fun q s => by unfold ownWriteActuator; (repeat' split) <;> trivial
theorem ownReadActuator_answers : Answers ownReadActuator := fun q s => by unfold ownReadActuator; split <;> trivial
theorem ownResetActuator_answers : Answers ownResetActuator := fun q s => by unfold ownResetActuator; split <;> trivial
theorem ownAckNotes_answers : Answers ownAckNotes := fun q s => by unfold ownAckNotes; split <;> trivial
theorem ownWriteCounters_answers : Answers ownWriteCounters := fun q s => by unfold ownWriteCounters; split <;> trivial

/-! ## What the owners do -/

/-- The property is kept by what the owners of the requests do. It reads of the regulators at most their handover entries; what it needs to
know of the regulators' states is `H`. -/
structure Undertaken (q : Request) (H P : State → Prop) : Prop where
  driving : Driving P
  calm : Calm P
  apart : Apart P
  record : ∀ {s : State} {r : Fin 32} {g : Regulator}, g.handover = (s.reg r).handover → P s → P (s.setReg r g)
  ready : ∀ {s : State} {r : Fin 32}, H s → (s.reg r).state = .disabled → P s → P (s.setReg r (s.reg r).readied)
  cancelled : ∀ {s : State} {r : Fin 32} {g : Regulator}, H s → g.handover = none → P s → P ((cancelHandover r s).setReg r g)
  point : ∀ {s : State} {i : Fin 256} (p : Option Point), P s → P (s.setPoint i p)
  budget : ∀ {s : State} {v : Byte}, v ≠ 0 → P s → P (s.withCi { s.ci with hopBudget := v })
  bind : ∀ {s : State}, P s → P (s.withRu { s.ru with manager := some q.src })
  unbind : ∀ {s : State}, P s → P (s.withRu { s.ru with manager := none })
  restart : ∀ {s : State}, P s → P (forEachRegulator restartRegulator (restartBlocks s))
  clear : ∀ {s : State}, P s → P (clearBlocks s)

/-- The requests that are answered as they are taken: all but READ_STATUS, TAKE_MANUAL and SWEEP. -/
def answeredAtOnce : Instr → Bool
  | .identify | .bind | .unbind | .restart | .clearAll | .setChain | .setOverride | .writePoint | .readPoint | .deletePoint | .findPoint
  | .setWatch | .clearWatch | .writeRegulator | .writeCurve | .readRegulator | .enableRegulator | .disableRegulator | .setManualLevel
  | .releaseManual | .writeActuator | .readActuator | .resetActuator | .ackNotes | .writeCounters | .readCounters | .malformedRequest => true
  | _ => false

section
variable {H P : State → Prop} (hP : Undertaken q H P)
include hP

theorem Undertaken.ownBind (h : P u) : P (ownBind q u).1 := by
  obtain hr | ⟨-, hr⟩ := ownBind_leaves q u <;> rw [hr]
  · exact h
  · exact hP.bind h

theorem Undertaken.ownUnbind (h : P u) : P (ownUnbind q u).1 := by
  obtain hr | hr := ownUnbind_leaves q u <;> rw [hr]
  · exact h
  · exact hP.calm.notes rfl (hP.unbind h)

theorem Undertaken.ownSetChain (h : P u) : P (ownSetChain q u).1 := by
  obtain hr | ⟨v, hv, hr⟩ := ownSetChain_leaves q u <;> rw [hr]
  · exact h
  · exact hP.budget hv h

theorem Undertaken.ownSetOverride (h : P u) : P (ownSetOverride q u).1 := by
  obtain hr | ⟨v, hr⟩ := ownSetOverride_leaves q u <;> rw [hr]
  · exact h
  · exact hP.apart.om _ h

theorem Undertaken.ownWritePoint (h : P u) : P (ownWritePoint q u).1 := by
  obtain hr | ⟨i, c, -, -, -, hr⟩ := ownWritePoint_leaves q u <;> rw [hr]
  · exact h
  · exact hP.apart.write hP.point h

theorem Undertaken.ownDeletePoint (h : P u) : P (ownDeletePoint q u).1 := by
  obtain hr | ⟨i, -, hr⟩ := ownDeletePoint_leaves q u <;> rw [hr]
  · exact h
  · exact hP.apart.leaveCritical i (hP.point none h)

theorem Undertaken.ownSetWatch (h : P u) : P (ownSetWatch q u).1 := by
  obtain hr | ⟨i, p, w, -, -, -, hr⟩ := ownSetWatch_leaves q u <;> rw [hr]
  · exact h
  · exact hP.point _ h

theorem Undertaken.ownClearWatch (h : P u) : P (ownClearWatch q u).1 := by
  obtain hr | ⟨i, p, -, hr⟩ := ownClearWatch_leaves q u <;> rw [hr]
  · exact h
  · exact hP.point _ h

theorem Undertaken.ownWriteRegulator (h : P u) : P (ownWriteRegulator q u).1 := by
  obtain hr | ⟨r, c, -, -, -, -, hr⟩ := ownWriteRegulator_leaves q u <;> rw [hr]
  · exact h
  · exact hP.driving.participateChange (hP.record rfl h)

theorem Undertaken.ownWriteCurve (h : P u) : P (ownWriteCurve q u).1 := by
  obtain hr | ⟨r, v, -, hr⟩ := ownWriteCurve_leaves q u <;> rw [hr]
  · exact h
  · exact hP.record rfl h

theorem Undertaken.ownEnableRegulator (hh : H u) (h : P u) : P (ownEnableRegulator q u).1 := by
  obtain hr | ⟨r, he, hr⟩ := ownEnableRegulator_leaves q u <;> rw [hr]
  · exact h
  · have disabled : (u.reg r).state = .disabled := by
      simp only [enableable, Bool.and_eq_true, decide_eq_true_eq] at he
      exact he.1.1.1
    exact hP.calm.enableSupervisor (hP.driving.startPeriod (hP.driving.resumeControl (hP.ready hh disabled h)))

theorem Undertaken.ownDisableRegulator (hh : H u) (h : P u) : P (ownDisableRegulator q u).1 := by
  obtain hr | ⟨r, hr⟩ := ownDisableRegulator_leaves q u <;> rw [hr]
  · exact h
  · exact hP.calm.resetSupervisor (hP.cancelled hh rfl h)

theorem Undertaken.ownSetManualLevel (h : P u) : P (ownSetManualLevel q u).1 := by
  obtain hr | ⟨r, l, -, ⟨-, hr⟩ | ⟨-, hr⟩⟩ := ownSetManualLevel_leaves q u <;> rw [hr]
  · exact h
  · exact hP.driving.writeManual (hP.record rfl h)
  · exact hP.record rfl h

theorem Undertaken.ownReleaseManual (hh : H u) (h : P u) : P (ownReleaseManual q u).1 := by
  obtain hr | ⟨r, -, hr⟩ := ownReleaseManual_leaves q u <;> rw [hr]
  · exact h
  · have released : P ((cancelHandover r u).setReg r ((cancelHandover r u).reg r).released) := hP.cancelled hh rfl h
    exact hP.driving.startPeriod (hP.driving.resumeControl released)

theorem Undertaken.ownWriteActuator (h : P u) : P (ownWriteActuator q u).1 := by
  obtain hr | ⟨c, n, -, he, -, -, hr⟩ := ownWriteActuator_leaves q u <;> rw [hr]
  · exact h
  · exact hP.calm.bind he h

theorem Undertaken.ownResetActuator (h : P u) : P (ownResetActuator q u).1 := by
  obtain hr | ⟨c, hr⟩ := ownResetActuator_leaves q u <;> rw [hr]
  · exact h
  · exact hP.calm.reset c h

theorem Undertaken.ownAckNotes (h : P u) : P (ownAckNotes q u).1 := by
  obtain hr | ⟨x, rest, -, hr⟩ := ownAckNotes_leaves q u <;> rw [hr]
  · exact h
  · exact hP.calm.notes rfl h

theorem Undertaken.ownWriteCounters (h : P u) : P (ownWriteCounters q u).1 := by
  obtain hr | ⟨v, hr⟩ := ownWriteCounters_leaves q u <;> rw [hr]
  · exact h
  · exact hP.calm.counters _ h

end

/-- A request that is answered at once is taken by an owner that keeps such a property. -/
theorem answeredAtOnce_owner {c : Instr} (hc : answeredAtOnce c = true) : ∃ accepts owner,
    (∀ s, exec c s = .next (takeRequest accepts owner s)) ∧ Answers owner ∧
      ∀ {q : Request} {H P : State → Prop} {u : State}, Undertaken q H P → H u → P u → P (owner q u).1 := by
  cases c with
  | identify => exact ⟨_, _, fun _ => rfl, ownIdentify_answers, fun _ _ h => h⟩
  | readCounters => exact ⟨_, _, fun _ => rfl, ownReadCounters_answers, fun _ _ h => h⟩
  | malformedRequest => exact ⟨_, _, fun _ => rfl, ownMalformed_answers, fun _ _ h => h⟩
  | readPoint => exact ⟨_, _, fun _ => rfl, ownReadPoint_answers, fun _ _ h => by rw [ownReadPoint_reads]; exact h⟩
  | findPoint => exact ⟨_, _, fun _ => rfl, ownFindPoint_answers, fun _ _ h => by rw [ownFindPoint_reads]; exact h⟩
  | readRegulator => exact ⟨_, _, fun _ => rfl, ownReadRegulator_answers, fun _ _ h => by rw [ownReadRegulator_reads]; exact h⟩
  | readActuator => exact ⟨_, _, fun _ => rfl, ownReadActuator_answers, fun _ _ h => by rw [ownReadActuator_reads]; exact h⟩
  | bind => exact ⟨_, _, fun _ => rfl, ownBind_answers, fun hP _ h => hP.ownBind h⟩
  | unbind => exact ⟨_, _, fun _ => rfl, ownUnbind_answers, fun hP _ h => hP.ownUnbind h⟩
  | restart => exact ⟨_, _, fun _ => rfl, ownRestart_answers, fun hP _ h => hP.calm.signalTimes _ (hP.restart h)⟩
  | clearAll => exact ⟨_, _, fun _ => rfl, ownClearAll_answers, fun hP _ h => hP.calm.signalTimes _ (hP.clear h)⟩
  | setChain => exact ⟨_, _, fun _ => rfl, ownSetChain_answers, fun hP _ h => hP.ownSetChain h⟩
  | setOverride => exact ⟨_, _, fun _ => rfl, ownSetOverride_answers, fun hP _ h => hP.ownSetOverride h⟩
  | writePoint => exact ⟨_, _, fun _ => rfl, ownWritePoint_answers, fun hP _ h => hP.ownWritePoint h⟩
  | deletePoint => exact ⟨_, _, fun _ => rfl, ownDeletePoint_answers, fun hP _ h => hP.ownDeletePoint h⟩
  | setWatch => exact ⟨_, _, fun _ => rfl, ownSetWatch_answers, fun hP _ h => hP.ownSetWatch h⟩
  | clearWatch => exact ⟨_, _, fun _ => rfl, ownClearWatch_answers, fun hP _ h => hP.ownClearWatch h⟩
  | writeRegulator => exact ⟨_, _, fun _ => rfl, ownWriteRegulator_answers, fun hP _ h => hP.ownWriteRegulator h⟩
  | writeCurve => exact ⟨_, _, fun _ => rfl, ownWriteCurve_answers, fun hP _ h => hP.ownWriteCurve h⟩
  | enableRegulator => exact ⟨_, _, fun _ => rfl, ownEnableRegulator_answers, fun hP => hP.ownEnableRegulator⟩
  | disableRegulator => exact ⟨_, _, fun _ => rfl, ownDisableRegulator_answers, fun hP => hP.ownDisableRegulator⟩
  | setManualLevel => exact ⟨_, _, fun _ => rfl, ownSetManualLevel_answers, fun hP _ h => hP.ownSetManualLevel h⟩
  | releaseManual => exact ⟨_, _, fun _ => rfl, ownReleaseManual_answers, fun hP => hP.ownReleaseManual⟩
  | writeActuator => exact ⟨_, _, fun _ => rfl, ownWriteActuator_answers, fun hP _ h => hP.ownWriteActuator h⟩
  | resetActuator => exact ⟨_, _, fun _ => rfl, ownResetActuator_answers, fun hP _ h => hP.ownResetActuator h⟩
  | ackNotes => exact ⟨_, _, fun _ => rfl, ownAckNotes_answers, fun hP _ h => hP.ownAckNotes h⟩
  | writeCounters => exact ⟨_, _, fun _ => rfl, ownWriteCounters_answers, fun hP _ h => hP.ownWriteCounters h⟩
  | _ => exact absurd hc Bool.false_ne_true

end Sys2Proof.Machine
end

section
/-! The law of the Request Unit as a law of its list of entries and of those that wait for a completion (O12). -/

namespace Sys2Proof.Machine
open Sys2Proof.Claims

variable {s t : State} {l l' : List EntryRef} {u : RequestUnit} {q : Request} {ref : EntryRef} {x : Reply}

/-! ## The entries that wait -/

/-- The awaited entries read the handovers and the entry of the sweep. -/
theorem awaited_congr (hr : ∀ r, (t.reg r).handover = (s.reg r).handover) (hs : t.sweep.map (·.entry) = s.sweep.map (·.entry)) :
    awaited t = awaited s := by
  simp only [awaited, hr, hs]

/-- One regulator's entry stands in its place between those before and those behind it. -/
theorem awaited_split (s : State) (r : Fin 32) : ∃ before after, ∀ t : State, (∀ q, q ≠ r → (t.reg q).handover = (s.reg q).handover) →
    t.sweep.map (·.entry) = s.sweep.map (·.entry) → awaited t = before ++ ((t.reg r).handover.toList ++ after) := by
  obtain ⟨first, last, hsplit⟩ := List.append_of_mem (List.mem_finRange r)
  have nodup := List.nodup_finRange 32
  rw [hsplit, List.nodup_append, List.nodup_cons] at nodup
  obtain ⟨-, ⟨hlast, -⟩, hfirst⟩ := nodup
  refine ⟨first.filterMap fun q => (s.reg q).handover,
    (last.filterMap fun q => (s.reg q).handover) ++ (s.sweep.map (·.entry)).toList, fun t others hs => ?_⟩
  have before : (first.filterMap fun q => (t.reg q).handover) = first.filterMap fun q => (s.reg q).handover :=
    List.filterMap_congr fun q hq => others q fun e => hfirst q hq r (by simp) e
  have after : (last.filterMap fun q => (t.reg q).handover) = last.filterMap fun q => (s.reg q).handover :=
    List.filterMap_congr fun q hq => others q fun e => hlast (e ▸ hq)
  rw [awaited, hsplit, List.filterMap_append, List.filterMap_cons, before, hs]
  cases (t.reg r).handover <;> simp [after]

/-- A handover that ends leaves the list without its entry. -/
theorem awaited_ended {r : Fin 32} (others : ∀ q, q ≠ r → (t.reg q).handover = (s.reg q).handover)
    (hs : t.sweep.map (·.entry) = s.sweep.map (·.entry)) (hr : (s.reg r).handover = some ref) (hn : (t.reg r).handover = none)
    (once : (awaited s).Nodup) : ref ∈ awaited s ∧ (awaited t).Nodup ∧ ∀ y, y ∈ awaited t ↔ y ∈ awaited s ∧ y ≠ ref := by
  obtain ⟨before, after, split⟩ := awaited_split s r
  rw [split s (fun _ _ => rfl) rfl, hr] at once ⊢
  rw [split t others hs, hn]
  simp only [Option.toList, List.nil_append, List.cons_append] at once ⊢
  rw [List.nodup_middle, List.nodup_cons] at once
  refine ⟨by simp, once.2, fun y => ?_⟩
  have apart : ref ∉ before ++ after := once.1
  simp only [List.mem_append, List.mem_cons] at apart ⊢
  grind

/-- A handover that begins adds its entry to the list. -/
theorem awaited_begun {r : Fin 32} (others : ∀ q, q ≠ r → (t.reg q).handover = (s.reg q).handover)
    (hs : t.sweep.map (·.entry) = s.sweep.map (·.entry)) (hr : (s.reg r).handover = none) (hn : (t.reg r).handover = some ref)
    (once : (awaited s).Nodup) (fresh : ref ∉ awaited s) : (awaited t).Nodup ∧ ∀ y, y ∈ awaited t ↔ y = ref ∨ y ∈ awaited s := by
  obtain ⟨before, after, split⟩ := awaited_split s r
  rw [split s (fun _ _ => rfl) rfl, hr] at once fresh ⊢
  rw [split t others hs, hn]
  simp only [Option.toList, List.nil_append, List.cons_append] at once fresh ⊢
  refine ⟨?_, fun y => ?_⟩
  · rw [List.nodup_middle, List.nodup_cons]; exact ⟨fresh, once⟩
  · simp only [List.mem_append, List.mem_cons]; tauto

/-! ## The list of entries (R149, R155) -/

/-- The entries whose request is done. -/
def Entry.finished (ref : EntryRef) (x : Reply) (e : Entry) : Entry := if e.ref = ref then { e with status := .done x } else e

theorem Entry.finished_ref (ref : EntryRef) (x : Reply) (e : Entry) : (e.finished ref x).ref = e.ref := by
  unfold Entry.finished; split <;> rfl

theorem markDone_recent (u : RequestUnit) (ref : EntryRef) (x : Reply) : (u.markDone ref x).recent = u.recent.map (Entry.finished ref x) := rfl

theorem map_finished_ref (l : List Entry) (ref : EntryRef) (x : Reply) : (l.map (Entry.finished ref x)).map (·.ref) = l.map (·.ref) := by
  rw [List.map_map]
  exact List.map_congr_left fun e _ => e.finished_ref ref x

/-- The completion of an entry leaves the other PENDING ones. -/
theorem mem_map_finished (l : List Entry) (ref : EntryRef) (x : Reply) (y : EntryRef) :
    { ref := y, status := .pending } ∈ l.map (Entry.finished ref x) ↔ { ref := y, status := .pending } ∈ l ∧ y ≠ ref := by
  constructor
  · intro h
    obtain ⟨e, he, hy⟩ := List.mem_map.1 h
    unfold Entry.finished at hy
    split at hy
    · exact absurd (congrArg Entry.status hy) (by simp)
    · next hne => subst hy; exact ⟨he, hne⟩
  · rintro ⟨h, hne⟩
    exact List.mem_map.2 ⟨_, h, if_neg hne⟩

/-- The completion of a PENDING entry leaves one fewer. -/
theorem countP_map_finished {l : List Entry} (hn : (l.map (·.ref)).Nodup) (h : { ref := ref, status := .pending } ∈ l) :
    (l.map (Entry.finished ref x)).countP (fun e => e.status = .pending) + 1 = l.countP (fun e => e.status = .pending) := by
  induction l with
  | nil => cases h
  | cons e l ih =>
    rw [List.map_cons, List.nodup_cons] at hn
    obtain ⟨apart, once⟩ := hn
    by_cases he : e.ref = ref
    · have other : ∀ e' ∈ l, e'.ref ≠ ref := fun e' he' h' => apart (he ▸ h' ▸ List.mem_map.2 ⟨e', he', rfl⟩)
      have pending : e.status = .pending := by
        obtain h | h := List.mem_cons.1 h
        · rw [← h]
        · exact absurd rfl (other _ h)
      have kept : l.map (Entry.finished ref x) = l := by
        conv_rhs => rw [← List.map_id l]
        exact List.map_congr_left fun e' he' => if_neg (other e' he')
      simp [kept, Entry.finished, he, pending]
    · have rest : ({ ref := ref, status := .pending } : Entry) ∈ l := by
        obtain h | h := List.mem_cons.1 h
        · exact absurd (congrArg Entry.ref h.symm) he
        · exact h
      have same : e.finished ref x = e := if_neg he
      rw [List.map_cons, same, List.countP_cons, List.countP_cons, ← ih once rest]
      omega

theorem dropOldestDone_sublist (l : List Entry) : (dropOldestDone l).Sublist l := by
  induction l with
  | nil => exact .slnil
  | cons e l ih =>
    unfold dropOldestDone
    split
    · exact ih.cons_cons e
    · exact l.sublist_cons_self e

theorem mem_dropOldestDone {l : List Entry} {y : EntryRef} :
    { ref := y, status := .pending } ∈ dropOldestDone l ↔ { ref := y, status := .pending } ∈ l := by
  induction l with
  | nil => rfl
  | cons e l ih =>
    unfold dropOldestDone
    split
    · rw [List.mem_cons, List.mem_cons, ih]
    · next h =>
      rw [List.mem_cons]
      exact ⟨.inr, fun hy => hy.resolve_left fun e' => h (by rw [← e'])⟩

/-- R149: an entry is dropped while one is DONE. -/
theorem dropOldestDone_length {l : List Entry} (h : l.countP (fun e => e.status = .pending) < l.length) :
    (dropOldestDone l).length + 1 = l.length := by
  induction l with
  | nil => cases h
  | cons e l ih =>
    unfold dropOldestDone
    by_cases he : e.status = .pending
    · rw [if_pos he, List.length_cons, List.length_cons, ih]
      simpa [List.countP_cons, he] using h
    · rw [if_neg he, List.length_cons]

/-! ## The law -/

/-- The replies formed and not yet granted. -/
def RequestUnit.outgoing (u : RequestUnit) : Nat := u.slot.toList.length + u.ready.length

/-- The law of the Request Unit while the entries of `l` wait for a completion. -/
structure DeskLaw (l : List EntryRef) (u : RequestUnit) : Prop where
  fifo : u.fifo.length ≤ 4
  slot : u.slot = none → u.ready = []
  recent : u.recent.length ≤ 4
  pairs : (u.recent.map (·.ref)).Nodup
  pending : u.pendingCount ≤ 3
  replies : u.pendingCount + u.outgoing ≤ 4
  owners : l.Nodup
  owned : ∀ ref, ref ∈ l ↔ { ref := ref, status := .pending } ∈ u.recent
  nodes : ∀ e ∈ u.recent, srcUsable e.ref.src = true
  manager : ∀ m, u.manager = some m → srcUsable m = true
  executing : ∀ x, u.execution = some x →
    x.request.payload = [2] ∧ srcUsable x.request.src = true ∧ (∀ e ∈ u.recent, e.ref ≠ x.request.ref) ∧ u.recent.length ≤ 3 ∧
      u.pendingCount + u.outgoing ≤ 3 ∧ x.read.data? = none

theorem requestLaw_iff (s : State) : RequestLaw s ↔ DeskLaw (awaited s) s.ru := by
  constructor
  · intro h
    have replies := h.replies
    rw [Nat.add_assoc] at replies
    exact { h with
      replies := replies
      executing := fun x hx => by
        obtain ⟨payload, src, fresh, room, total, read⟩ := h.executing x hx
        rw [Nat.add_assoc] at total
        exact ⟨payload, src, fresh, room, total, read⟩ }
  · intro h
    have replies := h.replies
    rw [RequestUnit.outgoing, ← Nat.add_assoc] at replies
    exact { h with
      replies := replies
      executing := fun x hx => by
        obtain ⟨payload, src, fresh, room, total, read⟩ := h.executing x hx
        rw [RequestUnit.outgoing, ← Nat.add_assoc] at total
        exact ⟨payload, src, fresh, room, total, read⟩ }

/-- R153: what placing a reply leaves, and that one reply more is formed. -/
structure Placed (u v : RequestUnit) : Prop where
  fifo : v.fifo = u.fifo
  recent : v.recent = u.recent
  execution : v.execution = u.execution
  manager : v.manager = u.manager
  slot : v.slot ≠ none
  outgoing : v.outgoing = u.outgoing + 1

theorem place_placed (hs : u.slot = none → u.ready = []) (x : Reply) : Placed u (u.place x) := by
  cases hslot : u.slot with
  | none =>
    rw [place_empty hslot (hs hslot)]
    exact ⟨rfl, rfl, rfl, rfl, nofun, by simp [RequestUnit.outgoing, hslot, Nat.add_comm]⟩
  | some y =>
    rw [place_behind (by rw [hslot]; rfl)]
    exact ⟨rfl, rfl, rfl, rfl, by simp [hslot], by simp [RequestUnit.outgoing, Nat.add_assoc]⟩

theorem Placed.pendingCount {v : RequestUnit} (h : Placed u v) : v.pendingCount = u.pendingCount := by
  simp only [RequestUnit.pendingCount, h.recent]

/-- A reply is placed where there is room for one, with no request in execution. -/
theorem DeskLaw.place (h : DeskLaw l u) (hx : u.execution = none) (room : u.pendingCount + u.outgoing ≤ 3) (x : Reply) :
    DeskLaw l (u.place x) := by
  have placed := place_placed h.slot x
  have pending := placed.pendingCount
  have outgoing := placed.outgoing
  exact {
    fifo := by rw [placed.fifo]; exact h.fifo
    slot := fun e => absurd e placed.slot
    recent := by rw [placed.recent]; exact h.recent
    pairs := by rw [placed.recent]; exact h.pairs
    pending := by rw [pending]; exact h.pending
    replies := by omega
    owners := h.owners
    owned := by rw [placed.recent]; exact h.owned
    nodes := by rw [placed.recent]; exact h.nodes
    manager := by rw [placed.manager]; exact h.manager
    executing := fun y hy => absurd (hx.symm.trans (placed.execution.symm.trans hy)) (Option.some_ne_none y).symm }

/-- R155: the completion of a PENDING entry: one PENDING entry fewer, one reply more. -/
theorem DeskLaw.complete (h : DeskLaw l u) (hr : ref ∈ l) (hn : l'.Nodup) (hm : ∀ y, y ∈ l' ↔ y ∈ l ∧ y ≠ ref) (x : Reply) :
    DeskLaw l' ((u.markDone ref x).place x) := by
  have placed := place_placed (u := u.markDone ref x) h.slot x
  have recent : ((u.markDone ref x).place x).recent = u.recent.map (Entry.finished ref x) := placed.recent.trans (markDone_recent u ref x)
  have pending : ((u.markDone ref x).place x).pendingCount + 1 = u.pendingCount := by
    rw [placed.pendingCount]
    exact countP_map_finished h.pairs ((h.owned ref).1 hr)
  have outgoing : ((u.markDone ref x).place x).outgoing = u.outgoing + 1 := placed.outgoing
  have before := h.pending
  have replies := h.replies
  exact {
    fifo := by rw [placed.fifo]; exact h.fifo
    slot := fun e => absurd e placed.slot
    recent := by rw [recent, List.length_map]; exact h.recent
    pairs := by rw [recent, map_finished_ref]; exact h.pairs
    pending := by omega
    replies := by omega
    owners := hn
    owned := fun y => by rw [hm, h.owned, recent, mem_map_finished]
    nodes := by
      intro e he
      rw [recent] at he
      obtain ⟨e', he', rfl⟩ := List.mem_map.1 he
      rw [Entry.finished_ref]
      exact h.nodes e' he'
    manager := by rw [placed.manager]; exact h.manager
    executing := by
      intro y hy
      rw [placed.execution] at hy
      obtain ⟨payload, src, fresh, room, total, read⟩ := h.executing y hy
      refine ⟨payload, src, fun e he => ?_, by rw [recent, List.length_map]; exact room, by omega, read⟩
      rw [recent] at he
      obtain ⟨e', he', rfl⟩ := List.mem_map.1 he
      rw [Entry.finished_ref]
      exact fresh e' he' }

/-- R154: the reply in the slot is granted. -/
theorem DeskLaw.advance (h : DeskLaw l u) : DeskLaw l u.advance := by
  have fewer : u.advance.outgoing ≤ u.outgoing := by
    unfold RequestUnit.outgoing RequestUnit.advance
    cases u.ready <;> simp [Nat.add_comm]
  have pending : u.advance.pendingCount = u.pendingCount := rfl
  have replies := h.replies
  exact { h with
    slot := fun e => by
      have empty : u.ready = [] := List.head?_eq_none_iff.1 e
      simp [RequestUnit.advance, empty]
    pending := h.pending
    replies := by omega
    executing := fun x hx => by
      obtain ⟨payload, src, fresh, room, total, read⟩ := h.executing x hx
      exact ⟨payload, src, fresh, room, by omega, read⟩ }

/-- R9, R146: the FIFO takes another request, or gives its head. -/
theorem DeskLaw.withFifo (h : DeskLaw l u) {f : List Request} (hf : f.length ≤ 4) : DeskLaw l { u with fifo := f } := by
  have pending : ({ u with fifo := f } : RequestUnit).pendingCount = u.pendingCount := rfl
  have outgoing : ({ u with fifo := f } : RequestUnit).outgoing = u.outgoing := rfl
  exact { h with
    fifo := hf
    pending := by rw [pending]; exact h.pending
    replies := by rw [pending, outgoing]; exact h.replies
    executing := by rw [pending, outgoing]; exact h.executing }

/-- R146 to R152: the law while the request `q` is executed: it has no entry yet, and there is room for its entry and its reply. -/
structure Taking (q : Request) (l : List EntryRef) (u : RequestUnit) : Prop extends DeskLaw l u where
  src : srcUsable q.src = true
  fresh : ∀ e ∈ u.recent, e.ref ≠ q.ref
  room : u.recent.length ≤ 3
  replies' : u.pendingCount + u.outgoing ≤ 3
  idle : u.execution = none

theorem Taking.complete (h : Taking q l u) (hr : ref ∈ l) (hn : l'.Nodup) (hm : ∀ y, y ∈ l' ↔ y ∈ l ∧ y ≠ ref) (x : Reply) :
    Taking q l' ((u.markDone ref x).place x) := by
  have placed := place_placed (u := u.markDone ref x) h.slot x
  have recent : ((u.markDone ref x).place x).recent = u.recent.map (Entry.finished ref x) := placed.recent.trans (markDone_recent u ref x)
  have pending : ((u.markDone ref x).place x).pendingCount + 1 = u.pendingCount := by
    rw [placed.pendingCount]
    exact countP_map_finished h.pairs ((h.owned ref).1 hr)
  have outgoing : ((u.markDone ref x).place x).outgoing = u.outgoing + 1 := placed.outgoing
  have total := h.replies'
  exact { h.toDeskLaw.complete hr hn hm x with
    src := h.src
    fresh := by
      intro e he
      rw [recent] at he
      obtain ⟨e', he', rfl⟩ := List.mem_map.1 he
      rw [Entry.finished_ref]
      exact h.fresh e' he'
    room := by rw [recent, List.length_map]; exact h.room
    replies' := by omega
    idle := by rw [placed.execution]; exact h.idle }

/-- R149: room is made for the entry of a request that has none. -/
theorem DeskLaw.makeRoom (h : DeskLaw l u) (hs : u.slot = none) (hx : u.execution = none) (hq : srcUsable q.src = true)
    (hf : u.find q.ref = none) : Taking q l u.makeRoom := by
  have fresh : ∀ e ∈ u.recent, e.ref ≠ q.ref := by simpa [RequestUnit.find] using hf
  have none' : u.outgoing = 0 := by simp [RequestUnit.outgoing, hs, h.slot hs]
  have few := h.pending
  unfold RequestUnit.makeRoom
  split
  · next e => exact { h with
      src := hq
      fresh := fresh
      room := Nat.le_of_lt_succ e
      replies' := by omega
      idle := hx }
  · next e =>
    have full : u.recent.length = 4 := Nat.le_antisymm h.recent (Nat.not_lt.1 e)
    have shorter := dropOldestDone_length (l := u.recent) (by unfold RequestUnit.pendingCount at few; omega)
    have sub := dropOldestDone_sublist u.recent
    have pending : ({ u with recent := dropOldestDone u.recent } : RequestUnit).pendingCount = u.pendingCount :=
      countP_dropOldestDone u.recent
    have outgoing : ({ u with recent := dropOldestDone u.recent } : RequestUnit).outgoing = u.outgoing := rfl
    have room : (dropOldestDone u.recent).length ≤ 3 := by omega
    exact {
      fifo := h.fifo
      slot := h.slot
      recent := room.trans (by decide)
      pairs := h.pairs.sublist (sub.map _)
      pending := by omega
      replies := by omega
      owners := h.owners
      owned := fun y => (h.owned y).trans mem_dropOldestDone.symm
      nodes := fun e he => h.nodes e (sub.subset he)
      manager := h.manager
      executing := by simp [hx]
      src := hq
      fresh := fun e he => fresh e (sub.subset he)
      room := room
      replies' := by omega
      idle := hx }

/-- R152: the request is answered at once: its entry is DONE, its reply placed. -/
theorem Taking.answer (h : Taking q l u) (x y : Reply) : DeskLaw l ((u.addEntry { ref := q.ref, status := .done x }).place y) := by
  have pending : (u.addEntry { ref := q.ref, status := .done x }).pendingCount = u.pendingCount := by
    simp [RequestUnit.pendingCount, RequestUnit.addEntry]
  have outgoing : (u.addEntry { ref := q.ref, status := .done x }).outgoing = u.outgoing := rfl
  have total := h.replies'
  have joined : DeskLaw l (u.addEntry { ref := q.ref, status := .done x }) := {
    fifo := h.fifo
    slot := h.slot
    recent := by have := h.room; simp [RequestUnit.addEntry]; omega
    pairs := by simpa [RequestUnit.addEntry, List.nodup_append, h.pairs] using fun e he => h.fresh e he
    pending := by rw [pending]; exact h.pending
    replies := by omega
    owners := h.owners
    owned := fun z => by rw [h.owned]; simp [RequestUnit.addEntry]
    nodes := by
      intro e he
      obtain he | rfl : e ∈ u.recent ∨ e = { ref := q.ref, status := .done x } := by simpa [RequestUnit.addEntry] using he
      · exact h.nodes e he
      · exact h.src
    manager := h.manager
    executing := by intro z hz; rw [show (u.addEntry _).execution = u.execution from rfl, h.idle] at hz; cases hz }
  exact joined.place h.idle (by omega) y

/-- R152: the request is deferred: its entry is PENDING, and awaited. -/
theorem Taking.defer (h : Taking q l u) (few : u.pendingCount < 3) (hn : l'.Nodup) (hm : ∀ y, y ∈ l' ↔ y = q.ref ∨ y ∈ l) :
    DeskLaw l' (u.addEntry { ref := q.ref, status := .pending }) := by
  have pending : (u.addEntry { ref := q.ref, status := .pending }).pendingCount = u.pendingCount + 1 := by
    simp [RequestUnit.pendingCount, RequestUnit.addEntry]
  have outgoing : (u.addEntry { ref := q.ref, status := .pending }).outgoing = u.outgoing := rfl
  have total := h.replies'
  exact {
    fifo := h.fifo
    slot := h.slot
    recent := by have := h.room; simp [RequestUnit.addEntry]; omega
    pairs := by simpa [RequestUnit.addEntry, List.nodup_append, h.pairs] using fun e he => h.fresh e he
    pending := by omega
    replies := by omega
    owners := hn
    owned := fun y => by rw [hm, h.owned]; simp [RequestUnit.addEntry, or_comm]
    nodes := by
      intro e he
      obtain he | rfl : e ∈ u.recent ∨ e = { ref := q.ref, status := .pending } := by simpa [RequestUnit.addEntry] using he
      · exact h.nodes e he
      · exact h.src
    manager := h.manager
    executing := by intro z hz; rw [show (u.addEntry _).execution = u.execution from rfl, h.idle] at hz; cases hz }

/-- R159: a READ_STATUS with groups left to read stays in execution. -/
theorem Taking.execute (h : Taking q l u) (hq : q.payload = [2]) {r : StatusRead} (hr : r.data? = none) :
    DeskLaw l (u.executing (some { request := q, read := r })) := by
  have pending : (u.executing (some { request := q, read := r })).pendingCount = u.pendingCount := rfl
  have outgoing : (u.executing (some { request := q, read := r })).outgoing = u.outgoing := rfl
  exact { h.toDeskLaw with
    pending := by rw [pending]; exact h.pending
    replies := by rw [pending, outgoing]; exact h.replies
    executing := by
      rw [pending, outgoing]
      rintro _ ⟨⟩
      exact ⟨hq, h.src, h.fresh, h.room, h.replies', hr⟩ }

/-- R159: the READ_STATUS in execution goes on. -/
theorem DeskLaw.resume (h : DeskLaw l u) {x : Execution} (hx : u.execution = some x) :
    Taking x.request l (u.executing none) ∧ x.request.payload = [2] := by
  obtain ⟨payload, src, fresh, room, total, -⟩ := h.executing x hx
  exact ⟨{ h with
    executing := fun y hy => absurd hy (Option.some_ne_none y).symm
    src := src
    fresh := fresh
    room := room
    replies' := total
    idle := rfl }, payload⟩

end Sys2Proof.Machine
end

section
/-! What the operations do to the entries that wait and to the list of entries (O12). -/

namespace Sys2Proof.Machine
open Sys2Proof.Claims

variable {s t : State} {D : List EntryRef → RequestUnit → Prop} {r : Fin 32} {q : Request}

/-! ## A law of the awaited entries and of the Request Unit -/

/-- A law of the entries that wait and of the Request Unit holds in the state. -/
def Held (D : List EntryRef → RequestUnit → Prop) (s : State) : Prop := D (awaited s) s.ru

theorem requestLaw_iff_held (s : State) : RequestLaw s ↔ Held DeskLaw s := requestLaw_iff s

/-- The law is kept by the completion of an entry that waits. -/
structure Ledger (D : List EntryRef → RequestUnit → Prop) : Prop where
  owners : ∀ {l u}, D l u → l.Nodup
  complete : ∀ {l l' u ref}, D l u → ref ∈ l → l'.Nodup → (∀ y, y ∈ l' ↔ y ∈ l ∧ y ≠ ref) → ∀ x, D l' ((u.markDone ref x).place x)

theorem ledger_desk : Ledger DeskLaw := ⟨DeskLaw.owners, DeskLaw.complete⟩

theorem ledger_taking (q : Request) : Ledger (Taking q) := ⟨fun h => h.owners, Taking.complete⟩

/-- The law reads the handovers, the entry of the sweep and the Request Unit. -/
theorem Held.congr (h : Held D s) (hr : ∀ r, (t.reg r).handover = (s.reg r).handover) (hs : t.sweep.map (·.entry) = s.sweep.map (·.entry))
    (hu : t.ru = s.ru) : Held D t := by
  unfold Held
  rw [awaited_congr hr hs, hu]
  exact h

theorem formReply_ru (x : Reply) (s : State) : (formReply x s).ru = s.ru.place x := by
  unfold formReply; dsimp only; split <;> simp

/-- R155: a completion marks the entry DONE and places its reply. -/
theorem completeEntry_placed (ref : EntryRef) (code : RequestCode) (status : Status) (data : List Byte) (s : State) :
    ∃ x, (completeEntry ref code status data s).ru = (s.ru.markDone ref x).place x := ⟨_, formReply_ru _ _⟩

/-- A regulator's record is written with its handover as it was. -/
theorem Held.setReg (h : Held D s) {g : Regulator} (hg : g.handover = (s.reg r).handover) : Held D (s.setReg r g) := by
  refine h.congr (fun q => ?_) rfl rfl
  rw [State.setReg_read]
  split
  · next e => rw [e, hg]
  · rfl

theorem incidental_held : Incidental (Held D) where
  notes _ h := h
  counters _ h := h
  turns _ h := h
  queue _ h := h

theorem wired_held : Wired (Held D) where
  toIncidental := incidental_held
  chain _ h := h

theorem driving_held : Driving (Held D) where
  toIncidental := incidental_held
  run _ h := h.setReg rfl
  drive _ _ h := h

section
variable (hD : Ledger D)
include hD

/-- A handover ends and its entry is completed. -/
theorem Ledger.ended (h : Held D s) {ref : EntryRef} (hr : (s.reg r).handover = some ref)
    (others : ∀ q, q ≠ r → (t.reg q).handover = (s.reg q).handover) (hn : (t.reg r).handover = none)
    (hs : t.sweep.map (·.entry) = s.sweep.map (·.entry)) (hu : ∃ x, t.ru = (s.ru.markDone ref x).place x) : Held D t := by
  obtain ⟨waits, once, rest⟩ := awaited_ended others hs hr hn (hD.owners h)
  obtain ⟨x, hu⟩ := hu
  unfold Held
  rw [hu]
  exact hD.complete h waits once rest x

/-- R140: the channel's report completes the handover of its regulator. -/
theorem Ledger.report {c : Fin 16} {faulted : Bool} (h : Held D s) : Held D (reportEntry c faulted s) := by
  unfold reportEntry
  split
  · exact h
  · next r _ =>
    split
    · unfold completeHandover
      dsimp only
      split
      · next hn => exact driving_held.writeManual (h.setReg hn.symm)
      · next ref hr =>
        have done := completeEntry_placed ref .takeManual .ok (manualReply r ((s.reg r).manualLevel.getD 0) faulted)
          (writeManual r (s.setReg r { s.reg r with state := .manual, handover := none }))
        refine hD.ended (r := r) h hr (fun q hq => ?_) ?_ (by simp) (by simpa using done)
        · simp [State.setReg_ne _ _ hq]
        · simp
    · exact h

theorem Ledger.calm : Calm (Held D) where
  toIncidental := incidental_held
  chan _ _ _ h := h
  marks h := h
  sup _ _ h := h
  alert _ h := h
  report _ _ h := hD.report h

theorem Ledger.apart : Apart (Held D) where
  toIncidental := incidental_held
  om _ h := h
  told _ h := h
  point _ _ _ h := h
  feedback := hD.calm.feedback
  wentStale := hD.calm.wentStale
  entry _ _ h := driving_held.entry h
  clearing _ _ h := driving_held.clearing h

/-- R143: a regulator leaves HANDOVER, if it is there: its TAKE_MANUAL is cancelled. -/
theorem Ledger.cancelled (hh : (s.reg r).handover.isSome ↔ (s.reg r).state = .handover) (h : Held D s) {g : Regulator}
    (hg : g.handover = none) : Held D ((cancelHandover r s).setReg r g) := by
  by_cases hs : (s.reg r).state = .handover
  · obtain ⟨ref, hr⟩ := Option.isSome_iff_exists.1 (hh.2 hs)
    have cancel : cancelHandover r s = completeEntry ref .takeManual .cancelled [byteOf r.val] s := by
      unfold cancelHandover
      rw [if_pos hs, hr]
    rw [cancel]
    refine hD.ended (r := r) h hr (fun q hq => ?_) ?_ (by simp) (completeEntry_placed ref .takeManual .cancelled [byteOf r.val] s)
    · rw [State.setReg_ne _ _ hq, completeEntry_reg]
    · rw [State.setReg_self]; exact hg
  · rw [cancelHandover_other hs]
    have none' : (s.reg r).handover = none := Option.not_isSome_iff_eq_none.1 fun e => hs (hh.1 e)
    exact h.setReg (hg.trans none'.symm)

/-- R180, R185: the sweep's visits keep its entry; its end completes it. -/
theorem Ledger.sweepStep (h : Held D s) : Held D (sweepStep s) := by
  have step {u : State} (hu : Held D u) : Held D (Machine.visit u) := by
    unfold Machine.visit
    split
    · exact hu
    · next d hd =>
      split
      · exact hu
      · split
        · refine Held.congr (hD.apart.reporting.visit d _ hu) (fun _ => rfl) ?_ rfl
          rw [visitRecord_sweep, hd]
          rfl
        · exact hu
  have visited : Held D (Nat.repeat Machine.visit Config.sweepBatch s) := repeat_keeps _ (Held D) (fun _ => step) _ h
  unfold Machine.sweepStep sweepAfterVisits
  generalize Nat.repeat Machine.visit Config.sweepBatch s = u at visited
  (repeat' split)
  · exact h
  · exact visited
  · next d hd _ => exact visited.congr (fun _ => rfl) (by rw [State.withSweep_sweep, hd]; rfl) rfl
  · next d hd _ =>
    have split : awaited u = awaited (u.withSweep none) ++ [d.entry] := by simp [awaited, hd]
    have once := hD.owners visited
    rw [split, List.nodup_append] at once
    obtain ⟨once, -, apart⟩ := once
    have waiting : awaited (completeEntry d.entry .sweep .ok (natBytes d.visited) (u.withSweep none)) = awaited (u.withSweep none) :=
      awaited_congr (by simp) (by simp)
    obtain ⟨x, done⟩ := completeEntry_placed d.entry .sweep .ok (natBytes d.visited) (u.withSweep none)
    unfold Held
    rw [waiting, done]
    refine hD.complete (l := awaited u) visited (by rw [split]; simp) once (fun y => ?_) x
    rw [split, List.mem_append, List.mem_singleton]
    exact ⟨fun hy => ⟨.inl hy, fun e => apart y hy d.entry (by simp) e⟩, fun ⟨hy, hne⟩ => hy.resolve_right hne⟩
  · exact h

end

/-! ## Events -/

theorem receiving_desk : Receiving (Held DeskLaw) where
  toWired := wired_held
  reading := ledger_desk.apart.reporting.reading
  ackOk _ _ h := ledger_desk.calm.ackOk h
  ackReject _ h := ledger_desk.calm.ackReject h
  req f h := by
    unfold takeReq
    split
    · next hf => exact DeskLaw.withFifo h (by rw [List.length_append]; exact hf)
    · exact incidental_held.signal h

/-- R154: a granted reply leaves the slot. -/
theorem held_egressGrant (h : Held DeskLaw s) : Held DeskLaw (egressGrant s) := by
  unfold egressGrant grantTransit grantOriginated
  (repeat' split)
  · exact h
  · exact h
  · exact h
  · exact DeskLaw.advance h
  · exact ledger_desk.calm.grantSet (fun _ h => h) h
  all_goals exact h

theorem held_egressDone (h : Held DeskLaw s) : Held DeskLaw (egressDone s) := by
  unfold egressDone deliverDone noteDone
  split
  · exact h
  · refine wired_held.settleIdlePort ?_
    dsimp only
    (repeat' split)
    · exact incidental_held.signal h
    · exact h
    · exact ledger_desk.calm.setDone h
    · exact incidental_held.notes rfl (incidental_held.signal h)
    · exact incidental_held.signal h

/-! ## Taking a request (R146 to R152) -/

/-- What an owner returns can be entered in the list: an answer at once, a request deferred with its entry awaited, or a READ_STATUS with
groups left to read. -/
def Entered (q : Request) (a : State × Verdict) : Prop :=
  match a.2 with
  | .reply _ _ => Held (Taking q) a.1
  | .deferred => a.1.ru.pendingCount < 3 ∧
      ∃ l, Taking q l a.1.ru ∧ (awaited a.1).Nodup ∧ ∀ y, y ∈ awaited a.1 ↔ y = q.ref ∨ y ∈ l
  | .reading x => Held (Taking q) a.1 ∧ q.payload = [2] ∧ x.data? = none

theorem Entered.finish {a : State × Verdict} (h : Entered q a) : Held DeskLaw (finish q a.2 a.1) := by
  obtain ⟨u, v⟩ := a
  cases v with
  | reply status data =>
    have waiting (x : Reply) (w : RequestUnit) : awaited (formReply x (u.withRu w)) = awaited u := awaited_congr (by simp) (by simp)
    unfold Machine.finish Held
    dsimp only
    rw [waiting, formReply_ru]
    exact Taking.answer h _ _
  | deferred =>
    obtain ⟨few, l, taking, once, waits⟩ := h
    exact taking.defer few once waits
  | reading x =>
    obtain ⟨taking, payload, unread⟩ := h
    exact Taking.execute taking payload unread

/-- A request is taken: discarded, answered from its entry, or executed with room for its entry and its reply. -/
theorem held_takeRequest {accepts : Request → Bool} {owner : Owner} (h : Held DeskLaw s)
    (own : ∀ q u, (∀ r, u.reg r = s.reg r) → accepts q = true → q.formatOk = true → Held (Taking q) u → Entered q (owner q u)) :
    Held DeskLaw (takeRequest accepts owner s) := by
  unfold takeRequest
  split
  · exact h
  · next q rest hf =>
    split
    · next hc =>
      simp only [Bool.and_eq_true, Option.isNone_iff_eq_none, List.isEmpty_iff] at hc
      obtain ⟨⟨⟨accepted, slot⟩, ready⟩, idle⟩ := hc
      have dequeued : Held DeskLaw (s.withRu { s.ru with fifo := rest }) := by
        have fifo := h.fifo
        rw [hf, List.length_cons] at fifo
        exact DeskLaw.withFifo h (by omega)
      have quiet : (s.withRu { s.ru with fifo := rest }).ru.outgoing = 0 := by simp [RequestUnit.outgoing, slot, ready]
      generalize hu : s.withRu { s.ru with fifo := rest } = u at dequeued quiet
      have regs (r : Fin 32) : u.reg r = s.reg r := by rw [← hu]; rfl
      have slot : u.ru.slot = none := by rw [← hu]; exact slot
      have idle : u.ru.execution = none := by rw [← hu]; exact idle
      unfold serve
      split
      · exact incidental_held.signal dequeued
      · next usable =>
        split
        · split
          · exact DeskLaw.place dequeued idle (by have := dequeued.pending; omega) _
          · exact dequeued
        · next unmatched =>
          have usable : srcUsable q.src = true := by simpa using usable
          have roomy : Held (Taking q) (u.withRu u.ru.makeRoom) := DeskLaw.makeRoom dequeued slot idle usable unmatched
          unfold serveNew
          dsimp only
          split
          · exact Entered.finish (a := (_, refuse .badRequest)) roomy
          · next format =>
            split
            · exact Entered.finish (a := (_, refuse .notManager)) roomy
            · exact (own q (u.withRu u.ru.makeRoom) regs accepted (by simpa using format) roomy).finish
    · exact h

theorem Entered.of_answer {a : State × Verdict} (ha : a.2.answers) (h : Held (Taking q) a.1) : Entered q a := by
  obtain ⟨u, v⟩ := a
  cases v with
  | reply status data => exact h
  | deferred => exact ha.elim
  | reading x => exact ha.elim

end Sys2Proof.Machine
end

section
/-! Every command keeps the law of the Request Unit (O12). -/

namespace Sys2Proof.Machine
open Sys2Proof.Claims

variable {s t u : State} {q : Request} {l : List EntryRef} {w : RequestUnit} {accepts : Request → Bool} {owner : Owner}

/-! ## The Request Unit's own requests -/

/-- R160: FIFO and entries are discarded, and with them what was awaited. -/
theorem Taking.clearOut (h : Taking q l w) : Taking q [] w.clearOut := by
  have none' : w.clearOut.pendingCount = 0 := rfl
  have outgoing : w.clearOut.outgoing = w.outgoing := rfl
  have total := h.replies'
  exact {
    fifo := Nat.zero_le 4
    slot := h.slot
    recent := Nat.zero_le 4
    pairs := .nil
    pending := by omega
    replies := by omega
    owners := .nil
    owned := fun _ => by simp [RequestUnit.clearOut]
    nodes := nofun
    manager := h.manager
    executing := fun x hx => absurd (h.idle.symm.trans hx) nofun
    src := h.src
    fresh := nofun
    room := Nat.zero_le 3
    replies' := by omega
    idle := h.idle }

theorem Taking.withManager (h : Taking q l w) {m : Option Byte} (hm : ∀ x, m = some x → srcUsable x = true) :
    Taking q l { w with manager := m } := { h with
  manager := hm }

theorem Held.cleared (h : Held (Taking q) s) (hr : ∀ r, (t.reg r).handover = none) (hs : t.sweep = none) (hu : t.ru = s.ru.clearOut) :
    Held (Taking q) t := by
  unfold Held
  rw [awaited_eq_nil hr hs, hu]
  exact Taking.clearOut h

theorem restarted_handover (g : Regulator) (now : Time) : (g.restarted now).handover = none := by
  unfold Regulator.restarted Regulator.restart
  cases g.state <;> rfl

/-- R92, R160: no regulator is in HANDOVER after a RESTART, and no sweep is in progress. -/
theorem Held.restarted (h : Held (Taking q) s) : Held (Taking q) (forEachRegulator restartRegulator (restartBlocks s)) := by
  have fresh : NoneFresh (restartBlocks s) := restartBlocks_noneFresh s
  have blocks := (forEachRestart _ fresh).blocks
  refine h.cleared (fun r => ?_) (by rw [blocks]; rfl) (by rw [blocks]; rfl)
  rw [forEachRestart_reg fresh, restarted_handover]

/-- R137 to R139: an entry to HANDOVER, with the request deferred. -/
theorem Entered.handover {r : Fin 32} {level : Nat} (h : Held (Taking q) s) (few : s.ru.pendingCount < 3)
    (hr : (s.reg r).handover = none) : Entered q (s.setReg r ((s.reg r).take .handover level (some q.ref)), .deferred) := by
  have fresh : q.ref ∉ awaited s := fun hq => h.fresh _ ((h.owned _).1 hq) rfl
  obtain ⟨once, waits⟩ := awaited_begun (s := s) (t := s.setReg r ((s.reg r).take .handover level (some q.ref))) (r := r)
    (fun p hp => by rw [State.setReg_ne _ _ hp]) rfl hr (by rw [State.setReg_self]; rfl) h.owners fresh
  exact ⟨few, awaited s, h, once, waits⟩

/-- R179: a SWEEP begins, with the request deferred. -/
theorem Entered.sweep (h : Held (Taking q) s) (few : s.ru.pendingCount < 3) (hs : s.sweep = none) :
    Entered q (s.withSweep (some (sweepStart q s.timebase)), .deferred) := by
  have fresh : q.ref ∉ awaited s := fun hq => h.fresh _ ((h.owned _).1 hq) rfl
  have joined : awaited (s.withSweep (some (sweepStart q s.timebase))) = awaited s ++ [q.ref] := by
    simp [awaited, hs, sweepStart]
  refine ⟨few, awaited s, h, ?_, fun y => ?_⟩
  · show (awaited (s.withSweep _)).Nodup
    rw [joined, List.nodup_append]
    exact ⟨h.owners, by simp, fun a ha b hb e => fresh (List.mem_singleton.1 hb ▸ e ▸ ha)⟩
  · show y ∈ awaited (s.withSweep _) ↔ _
    rw [joined, List.mem_append, List.mem_singleton, or_comm]

/-- R159: a READ_STATUS is answered, or stays in execution with groups left to read. -/
theorem Entered.readStatus {x : StatusRead} (h : Held (Taking q) s) (hq : q.payload = [2]) : Entered q (readStatusOn x s) := by
  have verdict (y : StatusRead) {u : State} (hu : Held (Taking q) u) : Entered q (u, y.verdict) := by
    unfold StatusRead.verdict
    split
    · exact hu
    · next hy => exact ⟨hu, hq, hy⟩
  obtain ⟨gs, later, -, e⟩ | ⟨-, e⟩ := readStatusOn_cases x s <;> rw [e]
  · exact verdict _ h
  · exact verdict _ h

theorem readStatus_payload (hc : hasCode .readStatus q = true) (hf : q.formatOk = true) : q.payload = [2] := by
  have code : q.code? = some .readStatus := by simpa [hasCode] using hc
  have length : q.payload.length = 1 := by simpa [Request.formatOk, code, RequestCode.admits] using hf
  obtain ⟨b, hb⟩ := List.length_eq_one_iff.1 length
  have head := Request.code?_eq_some_iff.1 code
  rw [hb] at head ⊢
  cases head
  rfl

/-! ## Every command -/

/-- The handover entry is present exactly in HANDOVER (R135). -/
def Handed (s : State) : Prop := ∀ r, (s.reg r).handover.isSome ↔ (s.reg r).state = .handover

theorem RegulatorLaw.handed (h : RegulatorLaw s) : Handed s := fun r => (h.records r).handover

theorem Handed.congr (h : Handed s) (hr : ∀ r, t.reg r = s.reg r) : Handed t := fun r => by rw [hr]; exact h r

theorem Handed.none {r : Fin 32} (h : Handed s) (hs : (s.reg r).state ≠ .handover) : (s.reg r).handover = none :=
  Option.not_isSome_iff_eq_none.1 fun e => hs ((h r).1 e)

theorem RegulatorState.controlling_ne {x : RegulatorState} (h : x.controlling = true) : x ≠ .handover := by
  rintro rfl; exact absurd h (by decide)

/-- What the owners of the requests answered at once do keeps the law while the request is executed. -/
theorem undertaken_taking (q : Request) : Undertaken q Handed (Held (Taking q)) where
  driving := driving_held
  calm := (ledger_taking q).calm
  apart := (ledger_taking q).apart
  record hg h := h.setReg hg
  ready hh hs h := h.setReg (hh.none (by rw [hs]; decide)).symm
  cancelled hh hg h := (ledger_taking q).cancelled (hh _) h hg
  point _ h := h
  budget _ h := h
  bind h := Taking.withManager h (by rintro _ ⟨⟩; exact h.src)
  unbind h := Taking.withManager h nofun
  restart h := h.restarted
  clear h := h.cleared (by simp [clearBlocks, State.reg, Regulator.default]) rfl rfl

theorem held_answeredAtOnce {c : Instr} (hc : answeredAtOnce c = true) (hh : Handed s) (h : Held DeskLaw s) :
    ∃ t, exec c s = .next t ∧ Held DeskLaw t := by
  obtain ⟨accepts, owner, he, answers, keeps⟩ := answeredAtOnce_owner hc
  exact ⟨_, he s, held_takeRequest h fun q u regs _ _ hu => .of_answer (answers q u) (keeps (undertaken_taking q) (hh.congr regs) hu)⟩

theorem held_takeManual (hh : Handed s) (h : Held DeskLaw s) : Held DeskLaw (takeRequest accepts ownTakeManual s) := by
  refine held_takeRequest h fun q u regs _ _ hu => ?_
  have handed : Handed u := hh.congr regs
  obtain ⟨hr, x, hx⟩ | ⟨r, l, -, ⟨-, hr, d, hd⟩ | ⟨hc, ⟨x, d, hr⟩ | ⟨few, hr⟩⟩⟩ := ownTakeManual_leaves q u
  · refine .of_answer (by rw [hx]; trivial) (by rw [hr]; exact hu)
  · refine .of_answer (by rw [hd]; trivial) ?_
    rw [hr]
    exact driving_held.writeManual (hu.setReg rfl)
  · have none' := handed.none (RegulatorState.controlling_ne hc)
    have taken : Held (Taking q) ((u.withTurns x).setReg r ((u.reg r).take .manual l none)) :=
      Held.setReg (s := u.withTurns x) hu none'.symm
    rw [hr]
    exact driving_held.writeManual taken
  · rw [hr]
    exact .handover hu few (handed.none (RegulatorState.controlling_ne hc))

theorem held_readStatus (h : Held DeskLaw s) : ∃ t, execReadStatus s = .next t ∧ Held DeskLaw t := by
  obtain ⟨x, hx, he⟩ | ⟨-, he⟩ := execReadStatus_cases s
  · obtain ⟨resumed, payload⟩ := DeskLaw.resume h hx
    have read : Held (Taking x.request) (s.withRu (s.ru.executing none)) := resumed
    exact ⟨_, he, (Entered.readStatus read payload).finish⟩
  · refine ⟨_, he, held_takeRequest h fun q u _ hc hf hu => ?_⟩
    exact Entered.readStatus hu (readStatus_payload hc hf)

theorem held_sweep (h : Held DeskLaw s) : Held DeskLaw (takeRequest accepts ownSweep s) := by
  refine held_takeRequest h fun q u _ _ _ hu => ?_
  obtain ⟨hr, x, hx⟩ | ⟨-, free, few, hr⟩ := ownSweep_leaves q u
  · exact .of_answer (by rw [hx]; trivial) (by rw [hr]; exact hu)
  · rw [hr]
    exact .sweep hu few free

/-- R146 to R160: every command keeps the law of the Request Unit. -/
theorem exec_requestLaw (c : Instr) (hh : Handed s) (h : Held DeskLaw s) : ∃ t, exec c s = .next t ∧ Held DeskLaw t := by
  have hD := ledger_desk
  cases c with
  | coldReset a =>
    have cold : Held DeskLaw (State.cold a) := (requestLaw_iff_held _).1 cold_requestLaw
    exact ⟨_, rfl, cold⟩
  | timebaseAdvance => exact ⟨_, rfl, h⟩
  | frameEnd => exact ⟨_, rfl, receiving_desk.frameEnd h⟩
  | symbolReceived x => exact ⟨_, rfl, receiving_desk.receiveSymbol h⟩
  | linkDownTimerExpiry => exact ⟨_, rfl, receiving_desk.linkDownExpiry h⟩
  | egressGrant => exact ⟨_, rfl, held_egressGrant h⟩
  | egressDone => exact ⟨_, rfl, held_egressDone h⟩
  | stalenessExpiry i => exact ⟨_, rfl, hD.apart.reporting.staleness i h⟩
  | periodTimerExpiry r => exact ⟨_, rfl, driving_held.period h⟩
  | holdTimerExpiry => exact ⟨_, rfl, hD.apart.hold h⟩
  | stallWindowExpiry r => exact ⟨_, rfl, hD.calm.window r h⟩
  | ackTimerExpiry c => exact ⟨_, rfl, hD.calm.ack c h⟩
  | probeTimerExpiry c => exact ⟨_, rfl, hD.calm.probe c h⟩
  | resendTimerExpiry =>
    refine ⟨_, rfl, ?_⟩
    unfold resendExpiry
    split <;> exact h
  | sweepStepExpiry => exact ⟨_, rfl, hD.sweepStep h⟩
  | readStatus => exact held_readStatus h
  | takeManual => exact ⟨_, rfl, held_takeManual hh h⟩
  | sweep => exact ⟨_, rfl, held_sweep h⟩
  | _ => exact held_answeredAtOnce rfl hh h

/-- Settles O12: an entry is PENDING exactly while a handover or the sweep waits for it, and its reply has room kept. -/
theorem requestLawIsKept : Obligations.RequestLawIsKept := by
  intro s t hr h ht
  unfold step at ht
  split at ht
  · exact Host.Outcome.next.inj ht ▸ h
  · next c rest _ =>
    have queued : Held DeskLaw (s.withPending rest) := (requestLaw_iff_held s).1 h
    have handed : Handed (s.withPending rest) := hr.handed.congr fun _ => rfl
    obtain ⟨u, hu, kept⟩ := exec_requestLaw c handed queued
    exact Host.Outcome.next.inj (hu.symm.trans ht) ▸ (requestLaw_iff_held u).2 kept

end Sys2Proof.Machine
end

section
/-! A part in TRANSPARENT mode only forwards frames (O15). -/

namespace Sys2Proof.Machine
open Sys2Proof.Claims

variable {s t : State}

/-- The part is in TRANSPARENT mode: every block but the Chain Interface stands as cold reset leaves it, whatever the straps; no SAMPLE is
in work, and only transit frames are sent. -/
structure Bridging (s : State) : Prop where
  inert : s = { State.cold 0 with timebase := s.timebase, ci := s.ci, pending := s.pending, turns := s.turns }
  mode : s.transparent = true
  sample : s.ci.sample = none
  port : s.ci.port = .free ∨ ∃ bytes, s.ci.port = .busy .transit bytes

/-- The cold reset state reads its straps in the Chain Interface alone. -/
theorem transparentLaw_iff (s : State) : TransparentLaw s ↔ (s.transparent = true → Bridging s) := by
  constructor
  · intro h mode
    obtain ⟨inert, sample, port⟩ := h mode
    exact ⟨inert, mode, sample, port⟩
  · intro h mode
    exact ⟨(h mode).inert, (h mode).sample, (h mode).port⟩

/-- R188, R186: every selector is OFF after a reset, so that no event counts. -/
theorem cleared_overflowing (c : EventClass) : TrafficCounters.cleared.overflowing c = [] := by
  simp [TrafficCounters.overflowing, TrafficCounters.cleared, Counter.overflows, Counter.off]

theorem cleared_count (c : EventClass) : TrafficCounters.cleared.count c = .cleared := by
  unfold TrafficCounters.count
  rw [cleared_overflowing]
  simp [TrafficCounters.cleared, Counter.count, Counter.off]

section
variable (h : Bridging s)
include h

/-! ## What stands in the blocks -/

theorem Bridging.point (i : Fin 256) : s.point i = none := by rw [h.inert]; exact State.cold_point 0 i
theorem Bridging.reg (r : Fin 32) : s.reg r = .default := by rw [h.inert]; exact State.cold_reg 0 r
theorem Bridging.sup (r : Fin 32) : s.sup r = .reset := by rw [h.inert]; exact State.cold_sup 0 r
theorem Bridging.chan (c : Fin 16) : s.chan c = .default := by rw [h.inert]; exact State.cold_chan 0 c
theorem Bridging.om : s.om = .cleared 10 := by rw [h.inert]; rfl
theorem Bridging.ru : s.ru = .cold := by rw [h.inert]; rfl
theorem Bridging.nu : s.nu = .cleared := by rw [h.inert]; rfl
theorem Bridging.sweep : s.sweep = none := by rw [h.inert]; rfl
theorem Bridging.counters : s.counters = .cleared := by rw [h.inert]; rfl

/-! ## Writes to the Chain Interface -/

/-- A write that keeps straps and SAMPLE, and the port FREE or with a transit frame. -/
theorem Bridging.withCi {x : ChainInterface} (straps : x.straps = s.ci.straps) (sample : x.sample = s.ci.sample)
    (port : x.port = s.ci.port ∨ x.port = .free ∨ ∃ bytes, x.port = .busy .transit bytes) : Bridging (s.withCi x) where
  inert := by
    have inert := h.inert
    generalize s.ci = y, s.timebase = n, s.pending = p, s.turns = l at inert
    rw [inert]
    rfl
  mode := by
    have mode := h.mode
    simp only [State.transparent, State.withCi_ci, straps] at mode ⊢
    exact mode
  sample := sample.trans h.sample
  port := by
    obtain e | e := port
    · rw [State.withCi_ci, e]; exact h.port
    · exact e

/-- R187: every selector is OFF, so that an event changes nothing. -/
theorem Bridging.signal (c : EventClass) : signal c s = s := by
  show signalTo 5 c s = s
  unfold signalTo
  dsimp only
  rw [h.counters, cleared_overflowing, cleared_count, ← h.counters]
  rfl

theorem Bridging.forward (f : Frame) : Bridging (forward f s) := by
  obtain ⟨c, hc⟩ | ⟨-, hc⟩ := forward_cases f s <;> rw [hc]
  · rw [h.signal]; exact h
  · exact h.withCi rfl rfl (.inl rfl)

theorem Bridging.settleIdlePort : Bridging (settleIdlePort s) := by
  rw [settleIdlePort_frame]; exact h.withCi rfl rfl (.inl rfl)

/-- R12: a DOWN link is raised without a note. -/
theorem Bridging.raiseLink (e : Time) : Bridging (raiseLink e s) := by
  have up : Bridging (s.withCi { s.ci with link := .up, downStart := none }) := h.withCi rfl rfl (.inl rfl)
  unfold Machine.raiseLink
  dsimp only
  (repeat' split)
  · exact h
  · exact up
  · exact up
  · next mode => exact absurd h.mode mode

/-! ## Frames -/

theorem Bridging.frameEnd (d : Bool) : Bridging (frameEnd d s) := by
  obtain ⟨w, hw, -⟩ | ⟨-, -, hr⟩ | ⟨f, -, -, hr⟩ := frameEnd_cases d s
  · cases h.sample.symm.trans hw
  · rw [hr]; exact h
  · have taken : Bridging (s.withCi { s.ci with rx := { s.ci.rx with awaiting := none } }) := h.withCi rfl rfl (.inl rfl)
    dsimp only at hr
    rw [taken.signal] at hr
    obtain ⟨-, hr⟩ | ⟨-, hr⟩ := hr <;> rw [hr]
    · have raised := taken.raiseLink f.endedAt
      rw [takeValid_transparent raised.mode]
      exact (raised.forward _).settleIdlePort
    · rw [taken.signal]; exact taken

theorem Bridging.receiveSymbol (x : Symbol) : Bridging (receiveSymbol x s) := by
  have timed : Bridging (startLinkTimer s) := h.withCi rfl rfl (.inl rfl)
  unfold Machine.receiveSymbol takeDelimiter takeData endFrame collect
  (repeat' split)
  · exact timed
  · exact (timed.frameEnd false).withCi rfl rfl (.inl rfl)
  · exact timed.withCi rfl rfl (.inl rfl)
  · exact timed.withCi rfl rfl (.inl rfl)
  · exact timed
  · exact timed.withCi rfl rfl (.inl rfl)
  · exact (timed.frameEnd false).withCi rfl rfl (.inl rfl)

theorem Bridging.truncateFrame : Bridging (truncateFrame s) := by
  have cut : Bridging (collect none s) := h.withCi rfl rfl (.inl rfl)
  unfold Machine.truncateFrame
  split
  · rw [cut.signal, cut.signal]; exact cut
  · exact h
  · exact h

theorem Bridging.linkDownExpiry : Bridging (linkDownExpiry s) := by
  have cut : Bridging (Machine.truncateFrame (Machine.frameEnd false s)) := (h.frameEnd false).truncateFrame
  unfold Machine.linkDownExpiry linkDown
  (repeat' split)
  · exact h
  · exact cut.withCi rfl rfl (.inl rfl)
  · exact cut.withCi rfl rfl (.inl rfl)
  · exact h

/-- R12, R15: no frame of the part's own waits. -/
theorem Bridging.egressGrant : Bridging (egressGrant s) := by
  have own : originatedWaiting s = false := by simp [originatedWaiting, h.mode]
  by_cases hp : s.ci.port = .free
  · cases ht : s.ci.transit with
    | nil =>
      have idle : classGranted s = none := by simp [classGranted, own, transitWaiting, ht]
      unfold Machine.egressGrant
      rw [if_pos hp, idle]
      exact h
    | cons f queue =>
      rw [egressGrant_transit hp ht (.inl own)]
      unfold grantTransit
      rw [ht]
      exact (h.withCi (x := { s.ci with transit := queue }) rfl rfl (.inl rfl)).withCi rfl rfl (.inr (.inr ⟨_, rfl⟩))
  · unfold Machine.egressGrant
    rw [if_neg hp]
    exact h

theorem Bridging.egressDone : Bridging (egressDone s) := by
  obtain hp | ⟨bytes, hp⟩ := h.port
  · unfold Machine.egressDone
    rw [hp]
    exact h
  · have freed : Bridging (s.withCi { s.ci with port := .free }) := h.withCi rfl rfl (.inr (.inl rfl))
    rw [egressDone_busy hp]
    refine Bridging.settleIdlePort ?_
    show Bridging (Machine.signal .framesForwarded _)
    rw [freed.signal]
    exact freed

/-- R195: no channel has a mark. -/
theorem Bridging.advance : Bridging (advanceTimebase s) where
  inert := by
    have chans : s.chans = Vector.replicate 16 .default := by rw [h.inert]; rfl
    have marks : s.chans.map Channel.settleMark = s.chans := by rw [chans, Vector.map_replicate]; rfl
    have inert := h.inert
    unfold advanceTimebase
    rw [marks]
    generalize s.ci = y, s.timebase = n, s.pending = p, s.turns = l at inert
    rw [inert]
    rfl
  mode := h.mode
  sample := h.sample
  port := h.port

end

/-! ## Every command -/

/-- R12, R146: there is no request to take, and no timer but the link-down timer runs. -/
theorem Bridging.exec (c : Instr) (hc : ∀ a, c ≠ .coldReset a) (h : Bridging s) : ∃ t, exec c s = .next t ∧ Bridging t := by
  have request (k : RequestCode) : Machine.exec (commandOf k) s = .next s :=
    (nothingHappensOutOfTurn.1 (commandOf k) s (.inl ⟨k, rfl⟩) (.inr (by rw [h.ru]; rfl))).1 (.inl (by rw [h.ru]; rfl))
  obtain ⟨-, -, -, -, hold, resend, staleness, period, window, ack, probe, sweep⟩ := nothingHappensOutOfTurn.2 s
  cases c with
  | coldReset a => exact absurd rfl (hc a)
  | timebaseAdvance => exact ⟨_, rfl, h.advance⟩
  | frameEnd => exact ⟨_, rfl, h.frameEnd true⟩
  | symbolReceived x => exact ⟨_, rfl, h.receiveSymbol x⟩
  | linkDownTimerExpiry => exact ⟨_, rfl, h.linkDownExpiry⟩
  | egressGrant => exact ⟨_, rfl, h.egressGrant⟩
  | egressDone => exact ⟨_, rfl, h.egressDone⟩
  | stalenessExpiry i => exact ⟨s, staleness i fun p hp => absurd ((h.point i).symm.trans hp) nofun, h⟩
  | periodTimerExpiry r => exact ⟨s, period r (by rw [h.reg]; rfl), h⟩
  | holdTimerExpiry => exact ⟨s, hold (by rw [h.om]; rfl), h⟩
  | stallWindowExpiry r => exact ⟨s, window r (by rw [h.sup]; rfl), h⟩
  | ackTimerExpiry c => exact ⟨s, ack c (by rw [h.chan]; rfl), h⟩
  | probeTimerExpiry c => exact ⟨s, probe c (by rw [h.chan]; rfl), h⟩
  | resendTimerExpiry => exact ⟨s, resend (by rw [h.nu]; rfl), h⟩
  | sweepStepExpiry => exact ⟨s, sweep fun d hd => absurd (h.sweep.symm.trans hd) nofun, h⟩
  | malformedRequest =>
    have still := (nothingHappensOutOfTurn.1 .malformedRequest s (.inr rfl) (.inl nofun)).1 (.inl (by rw [h.ru]; rfl))
    exact ⟨s, still, h⟩
  | identify => exact ⟨s, request .identify, h⟩
  | readStatus => exact ⟨s, request .readStatus, h⟩
  | bind => exact ⟨s, request .bind, h⟩
  | unbind => exact ⟨s, request .unbind, h⟩
  | restart => exact ⟨s, request .restart, h⟩
  | clearAll => exact ⟨s, request .clearAll, h⟩
  | setChain => exact ⟨s, request .setChain, h⟩
  | setOverride => exact ⟨s, request .setOverride, h⟩
  | writePoint => exact ⟨s, request .writePoint, h⟩
  | readPoint => exact ⟨s, request .readPoint, h⟩
  | deletePoint => exact ⟨s, request .deletePoint, h⟩
  | findPoint => exact ⟨s, request .findPoint, h⟩
  | setWatch => exact ⟨s, request .setWatch, h⟩
  | clearWatch => exact ⟨s, request .clearWatch, h⟩
  | writeRegulator => exact ⟨s, request .writeRegulator, h⟩
  | writeCurve => exact ⟨s, request .writeCurve, h⟩
  | readRegulator => exact ⟨s, request .readRegulator, h⟩
  | enableRegulator => exact ⟨s, request .enableRegulator, h⟩
  | disableRegulator => exact ⟨s, request .disableRegulator, h⟩
  | takeManual => exact ⟨s, request .takeManual, h⟩
  | setManualLevel => exact ⟨s, request .setManualLevel, h⟩
  | releaseManual => exact ⟨s, request .releaseManual, h⟩
  | writeActuator => exact ⟨s, request .writeActuator, h⟩
  | readActuator => exact ⟨s, request .readActuator, h⟩
  | resetActuator => exact ⟨s, request .resetActuator, h⟩
  | ackNotes => exact ⟨s, request .ackNotes, h⟩
  | sweep => exact ⟨s, request .sweep, h⟩
  | writeCounters => exact ⟨s, request .writeCounters, h⟩
  | readCounters => exact ⟨s, request .readCounters, h⟩

theorem exec_keeps_transparentLaw (c : Instr) (s t : State) (ht : exec c s = .next t) (h : TransparentLaw s) : TransparentLaw t := by
  by_cases hc : ∀ a, c ≠ .coldReset a
  · refine (transparentLaw_iff t).2 fun mode => ?_
    have straps : t.ci.straps = s.ci.straps := by
      obtain ⟨u, hu, work⟩ := exec_work c s hc
      cases hu.symm.trans ht
      exact work.straps
    have before : s.transparent = true := by simpa only [State.transparent, straps] using mode
    obtain ⟨u, hu, kept⟩ := ((transparentLaw_iff s).1 h before).exec c hc
    cases hu.symm.trans ht
    exact kept
  · obtain ⟨a, rfl⟩ : ∃ a, c = .coldReset a := by simpa using hc
    cases ht
    exact fun _ => ⟨rfl, rfl, .inl rfl⟩

/-- Settles O15: in TRANSPARENT mode no timer runs but the link's, no request is queued and no event counts, so that frames are forwarded
and nothing else happens. -/
theorem transparentLawIsKept : Obligations.TransparentLawIsKept := fun _ _ h ht =>
  step_keeps (fun s l h mode => by
    obtain ⟨inert, sample, port⟩ := h mode
    refine ⟨?_, sample, port⟩
    show _ = ({ ({ State.cold s.ci.straps with timebase := s.timebase, ci := s.ci, pending := s.pending, turns := s.turns } : State) with
      pending := l } : State)
    rw [← inert]
    rfl) exec_keeps_transparentLaw h ht

end Sys2Proof.Machine
end

section
/-! The frames that wait for the port: who has one, and what keeps it waiting (O14). -/

namespace Sys2Proof.Machine
open Sys2Proof.Claims

variable {s t : State} {u v : NoteUnit} {r : Fin 32}

/-! ## Who has a frame waiting (R15) -/

/-- A reply or a SET waits, but for the mode of the part. -/
def Busy (s : State) : Prop := s.ru.slot.isSome ∨ ∃ c, (s.chan c).waiting = true

/-- The part has a frame of its own waiting, but for its mode. -/
def Manned (s : State) : Prop := Busy s ∨ (noteOffer s).isSome

theorem originatedWaiting_iff (s : State) : originatedWaiting s = true ↔ s.transparent = false ∧ Manned s := by
  have channel : (nextChannel s).isSome = true ↔ ∃ c, (s.chan c).waiting = true := by
    rw [Option.isSome_iff_ne_none, ne_eq, nextChannel_eq_none_iff, not_forall]
    simp
  simp only [originatedWaiting, Manned, Busy, Bool.and_eq_true, Bool.not_eq_true', Bool.or_eq_true, channel]

theorem classGranted_eq_none_iff (s : State) :
    classGranted s = none ↔ s.ci.transit = [] ∧ (s.transparent = true ∨ ¬ Manned s) := by
  have own : originatedWaiting s = false ↔ s.transparent = true ∨ ¬ Manned s := by
    rw [← Bool.not_eq_true, originatedWaiting_iff, not_and_or, Bool.not_eq_false]
  have transit : transitWaiting s = false ↔ s.ci.transit = [] := by simp [transitWaiting]
  rw [← own, ← transit]
  unfold classGranted
  cases transitWaiting s <;> cases originatedWaiting s
  case true.true => simp only; split <;> simp
  all_goals simp

/-! ## A note stays on offer (R167) -/

/-- R167: a note is on offer while a manager is bound and the first due note is in flight, or no note is due, the window has room and a note
is unsent. -/
theorem offer_isSome_iff (b : Bool) (u : NoteUnit) : (u.offer b).isSome ↔
    b = true ∧ ((∃ n ∈ u.inFlight, u.due.head? = some n.sequence) ∨ u.due = [] ∧ u.inFlight.length < 4 ∧ u.unsent ≠ []) := by
  unfold NoteUnit.offer NoteUnit.firstOffer
  cases b with
  | false => simp
  | true =>
    cases u.due with
    | nil => by_cases room : u.inFlight.length < 4 <;> simp [Config.windowMax, room]
    | cons q rest => simp [eq_comm (a := q)]

/-- Settling a note and telling a condition take nothing that is in flight or due, and leave an unsent note where there is one. -/
theorem Settling.offer (h : Settling u v) {b : Bool} (ho : (u.offer b).isSome) : (v.offer b).isSome := by
  refine h.keeps (fun w => (w.offer b).isSome) (fun n w hw => ?_) (fun a w hw => hw) ho
  rw [offer_isSome_iff] at hw ⊢
  rw [settle_due, settle_inFlight]
  refine ⟨hw.1, hw.2.imp_right fun ⟨due, room, unsent⟩ => ⟨due, room, ?_⟩⟩
  obtain ⟨-, hs⟩ | ⟨-, -, hs⟩ | ⟨-, -, ⟨before, m, after, -, -, -, hs⟩ | ⟨-, hs⟩⟩ := settle_cases n w <;> rw [hs]
  · simpa [mergeInto] using unsent
  · simp
  · simp
  · exact unsent

theorem Manned.of_busy (h : Manned s) (hb : Busy s → Busy t) (hn : Settling s.nu t.nu) (hm : t.ru.manager = s.ru.manager) : Manned t := by
  refine h.imp hb fun ho => ?_
  unfold noteOffer at ho ⊢
  rw [hm]
  exact hn.offer ho

/-- R170: when the resend timer expires a note in flight is due. -/
theorem allDue_offer {b : Bool} (ho : (u.offer b).isSome) : (u.allDue.offer b).isSome := by
  rw [offer_isSome_iff] at ho ⊢
  obtain ⟨bound, ⟨n, sent, due⟩ | ⟨due, room, unsent⟩⟩ := ho
  · exact ⟨bound, .inl ⟨n, sent, by simp [NoteUnit.allDue, due]⟩⟩
  · cases hf : u.inFlight with
    | nil => exact ⟨bound, .inr ⟨by simp [NoteUnit.allDue, due, hf], room, unsent⟩⟩
    | cons n l => exact ⟨bound, .inl ⟨n, by simp [NoteUnit.allDue, hf], by simp [NoteUnit.allDue, due, hf]⟩⟩

end Sys2Proof.Machine
end

section
/-! Events and expiries leave the Chain Interface, and the frames that wait for the port (O14). -/

namespace Sys2Proof.Machine
open Sys2Proof.Claims

variable {s t u : State} {c : Fin 16} {r : Fin 32} {i : Fin 256}

/-- From `s` to `t` the Chain Interface is as it was, and a reply or a SET that waited has another waiting in its place. -/
structure Still (s t : State) : Prop where
  ci : t.ci = s.ci
  busy : Busy s → Busy t

theorem Still.refl (s : State) : Still s s := ⟨rfl, id⟩

/-- A write that keeps replies and channels. -/
theorem Still.same (h : Still s t) (hci : u.ci = t.ci) (hru : u.ru = t.ru) (hc : ∀ c, u.chan c = t.chan c) : Still s u :=
  ⟨hci.trans h.ci, fun b => by simpa only [Busy, hru, hc] using h.busy b⟩

/-- A channel's record is written that waits where it waited. -/
theorem Still.setChan (h : Still s t) {k : Channel} (hk : (t.chan c).waiting = true → k.waiting = true) : Still s (t.setChan c k) := by
  refine ⟨h.ci, fun b => (h.busy b).imp id fun ⟨d, hd⟩ => ⟨d, ?_⟩⟩
  rw [State.setChan_read]
  split
  · next e => exact hk (e ▸ hd)
  · exact hd

theorem writeDesired_waiting (k : Channel) (l : Nat) (h : k.waiting = true) : (k.writeDesired l).waiting = true := by
  have sending : k.state ≠ .idle := by
    intro e; simp [Channel.waiting, e] at h
  unfold Channel.writeDesired
  rw [if_neg sending]
  exact h

theorem driving_still : Driving (Still s) where
  notes _ h := h.same rfl rfl fun _ => rfl
  counters _ h := h.same rfl rfl fun _ => rfl
  turns _ h := h.same rfl rfl fun _ => rfl
  queue _ h := h.same rfl rfl fun _ => rfl
  run _ h := h.same rfl rfl fun _ => rfl
  drive _ _ h := h.setChan (writeDesired_waiting _ _)

theorem apart_still : Apart (Still s) where
  toIncidental := driving_still.toIncidental
  om _ h := h.same rfl rfl fun _ => rfl
  told _ h := h.same rfl rfl fun _ => rfl
  point _ _ _ h := h.same rfl rfl fun _ => rfl
  feedback _ _ h := h.same (by simp) (by simp) (by simp)
  wentStale _ h := h.same (by simp) (by simp) (by simp)
  entry _ _ h := driving_still.entry h
  clearing _ _ h := driving_still.clearing h

/-- R155: a completion places a reply, behind the one in the slot where there is one. -/
theorem place_slot {v : RequestUnit} (x : Reply) (h : v.slot.isSome) : (v.place x).slot.isSome := by
  rw [place_behind h]; exact h

theorem Still.completeEntry (h : Still s t) (ref : EntryRef) (code : RequestCode) (status : Status) (data : List Byte) :
    Still s (completeEntry ref code status data t) := by
  obtain ⟨x, placed⟩ := completeEntry_placed ref code status data t
  refine ⟨by rw [completeEntry_ci]; exact h.ci, fun b => (h.busy b).imp (fun slot => ?_) fun ⟨c, hc⟩ => ⟨c, by rw [completeEntry_chan]; exact hc⟩⟩
  rw [placed]
  exact place_slot x slot

theorem Still.report (h : Still s t) (faulted : Bool) : Still s (reportEntry c faulted t) :=
  driving_still.report (fun h => h.same rfl rfl fun _ => rfl) (fun _ _ _ _ h => h.completeEntry _ _ _ _) h

/-! ## The expiries -/

theorem still_advance (s : State) : Still s (advanceTimebase s) := by
  refine ⟨rfl, fun b => b.imp id fun ⟨c, hc⟩ => ⟨c, ?_⟩⟩
  rw [advanceTimebase_chan]
  exact hc

theorem still_window (r : Fin 32) (s : State) : Still s (windowExpiry r s) := by
  unfold windowExpiry
  split
  · exact driving_still.raise ((Still.refl s).same rfl rfl fun _ => rfl)
  · exact .refl s

theorem Still.enterFault (h : Still s t) (hc : (t.chan c).waiting = false) (cause : Nat) : Still s (enterFault c cause t) := by
  refine Still.report ?_ true
  refine (driving_still.raise ?_ : Still s _).same rfl rfl fun _ => rfl
  exact h.setChan fun w => absurd (hc.symm.trans w) Bool.false_ne_true

theorem still_ack (c : Fin 16) (s : State) : Still s (ackExpiry c s) := by
  unfold ackExpiry
  dsimp only
  split
  · next hc =>
    have quiet : (s.chan c).waiting = false := by
      simp only [Bool.and_eq_true, decide_eq_true_eq] at hc
      simp [Channel.waiting, hc.2]
    have write (k : Channel) : Still s (s.setChan c k) := (Still.refl s).setChan fun w => absurd (quiet.symm.trans w) Bool.false_ne_true
    (repeat' split)
    · exact (write _).report true
    · exact driving_still.signal (write _)
    · exact (Still.refl s).enterFault quiet _
  · exact .refl s

theorem still_probe (c : Fin 16) (s : State) : Still s (probeExpiry c s) := by
  unfold probeExpiry
  dsimp only
  split
  · exact (Still.refl s).setChan fun _ => rfl
  · exact .refl s

theorem still_sweepStep (s : State) : Still s (sweepStep s) := by
  have step {u : State} (hu : Still s u) : Still s (Machine.visit u) := by
    unfold Machine.visit
    split
    · exact hu
    · split
      · exact hu
      · split
        · exact Still.same (apart_still.reporting.visit _ _ hu) rfl rfl fun _ => rfl
        · exact hu
  have visited : Still s (Nat.repeat Machine.visit Config.sweepBatch s) := repeat_keeps _ (Still s) (fun _ => step) _ (.refl s)
  unfold sweepStep sweepAfterVisits
  (repeat' split)
  · exact .refl s
  · exact visited
  · exact visited.same rfl rfl fun _ => rfl
  · have ended : Still s ((Nat.repeat Machine.visit Config.sweepBatch s).withSweep none) := visited.same rfl rfl fun _ => rfl
    exact ended.completeEntry _ _ _ _
  · exact .refl s

end Sys2Proof.Machine
end

section
/-! Every step keeps the law of the Chain Interface (O14). -/

namespace Sys2Proof.Machine
open Sys2Proof.Claims

variable {s t u : State} {x y : ChainInterface} {q : Request}

/-! ## The law in two parts -/

/-- The part of the law that reads the Chain Interface alone (R2, R4, R5, R8, R11, R14, R38). -/
structure LineLaw (x : ChainInterface) : Prop where
  transit : x.transit.length ≤ 8
  collecting : ∀ bs, x.rx.collecting = some bs → bs.length ≤ 68
  awaiting : ∀ f, x.rx.awaiting = some f → 1 ≤ f.bytes.length ∧ f.bytes.length ≤ 69
  up : x.link = .up → x.linkTimer.isSome ∧ x.downStart = none
  sample : ∀ w, x.sample = some w → x.rx.awaiting = none ∧ w.Open
  silent : x.linkTimer = none → x.rx.awaiting = none ∧ x.sample = none ∧ (x.rx.collecting = none ∨ x.rx.collecting = some [])
  budget : x.hopBudget ≠ 0

/-- R16: the last class at a FREE port without candidates is none. -/
def Settled (s : State) : Prop := s.ci.port = .free → classGranted s = none → s.ci.lastClass = none

theorem chainLaw_iff (s : State) : ChainLaw s ↔ LineLaw s.ci ∧ Settled s := by
  constructor
  · intro h
    exact ⟨{ h with }, h.idle⟩
  · rintro ⟨h, idle⟩
    exact { h with
      sample := h.sample
      idle := idle }

/-- R16: whatever took the last candidate away, the port has been settled since. -/
theorem settled_settleIdlePort (s : State) : Settled (settleIdlePort s) := by
  intro free idle
  by_cases hs : s.ci.port = .free ∧ classGranted s = none
  · unfold settleIdlePort
    rw [if_pos (by simp [hs])]
    rfl
  · have same : settleIdlePort s = s := by
      unfold settleIdlePort
      exact if_neg (by simpa using hs)
    rw [same] at free idle
    exact absurd ⟨free, idle⟩ hs

/-- The port stays settled while it keeps its candidates and gets others. -/
theorem Settled.kept (h : Settled s) (straps : t.ci.straps = s.ci.straps) (port : t.ci.port = s.ci.port) (transit : t.ci.transit = s.ci.transit)
    (last : t.ci.lastClass = s.ci.lastClass) (hm : Manned s → Manned t) : Settled t := by
  intro free idle
  rw [classGranted_eq_none_iff] at idle
  rw [last]
  refine h (port.symm.trans free) ((classGranted_eq_none_iff s).2 ⟨transit.symm.trans idle.1, idle.2.imp (fun mode => ?_) (mt hm)⟩)
  simpa only [State.transparent, straps] using mode

theorem settled_of_busy {p : Producer} {bytes : List Byte} (h : s.ci.port = .busy p bytes) : Settled s := fun free => by
  rw [h] at free; cases free

/-! ## Writes to the Chain Interface -/

theorem LineLaw.withBudget (h : LineLaw x) {v : Byte} (hv : v ≠ 0) : LineLaw { x with hopBudget := v } := { h with
  budget := hv }

/-- A grant and its end write the port, the turn of the channels, the last class and the transit queue. -/
theorem LineLaw.egress (h : LineLaw x) {p : Port} {c : Option EgressClass} {l : List Frame} {n : Fin 16} (hl : l.length ≤ 8) :
    LineLaw { x with port := p, lastClass := c, transit := l, roundRobin := n } := { h with
  transit := hl }

/-- What a FRAME_END does to the Chain Interface keeps the law. -/
theorem LineLaw.passing {d : Bool} (h : LineLaw s.ci) (hp : Passing d s t) (ha : s.ci.rx.awaiting = none) (ht : s.ci.linkTimer.isSome) :
    LineLaw t.ci := by
  have rest := hp.rest
  have rx : t.ci.rx = s.ci.rx := by rw [rest]
  have timer : t.ci.linkTimer = s.ci.linkTimer := by rw [rest]
  have budget : t.ci.hopBudget = s.ci.hopBudget := by rw [rest]
  exact {
    transit := hp.transit h.transit
    collecting := by rw [rx]; exact h.collecting
    awaiting := by rw [rx]; exact h.awaiting
    up := fun up => by
      obtain ⟨hl, hd⟩ | ⟨-, hd⟩ := hp.link
      · rw [timer, hd]; exact h.up (hl.symm.trans up)
      · rw [timer]; exact ⟨ht, hd⟩
    sample := fun w hw => by
      rw [rx]
      obtain hs | ⟨-, w', hs, open'⟩ := hp.sample
      · exact h.sample w (hs.symm.trans hw)
      · cases hs.symm.trans hw
        exact ⟨ha, open'⟩
    silent := fun e => by rw [timer] at e; rw [e] at ht; cases ht
    budget := by rw [budget]; exact h.budget }

/-! ## Frames and symbols -/

/-- Nothing is in work while the link-down timer is stopped, so that a FRAME_END does nothing. -/
theorem LineLaw.frameEnd (h : LineLaw s.ci) (d : Bool) : LineLaw (frameEnd d s).ci := by
  cases timer : s.ci.linkTimer with
  | none =>
    obtain ⟨ha, hs, -⟩ := h.silent timer
    obtain ⟨w, hw, -⟩ | ⟨-, -, hr⟩ | ⟨f, -, hf, -⟩ := frameEnd_cases d s
    · cases hs.symm.trans hw
    · rw [hr]; exact h
    · cases ha.symm.trans hf
  | some e =>
    obtain ⟨w, hw, hp⟩ | ⟨hs, hp⟩ := frameEnd_passing (s := s) d fun w _ hw => (h.sample w hw).2.2
    · have free : LineLaw (s.withCi { s.ci with sample := none }).ci := { h with
        sample := nofun
        silent := fun e' => by rw [State.withCi_ci, timer] at e'; cases e' }
      exact free.passing hp (h.sample w hw).1 (by rw [State.withCi_ci, timer]; rfl)
    · have free : LineLaw (s.withCi { s.ci with rx := { s.ci.rx with awaiting := none } }).ci := { h with
        awaiting := nofun
        sample := fun w hw => absurd (hs.symm.trans hw) nofun
        silent := fun e' => by rw [State.withCi_ci, timer] at e'; cases e' }
      exact free.passing hp rfl (by rw [State.withCi_ci, timer]; rfl)

/-- No frame awaits the checks while a SAMPLE is in work. -/
theorem LineLaw.one (h : LineLaw s.ci) : s.ci.rx.awaiting = none ∨ s.ci.sample = none := by
  cases hs : s.ci.sample with
  | none => exact .inr rfl
  | some w => exact .inl (h.sample w hs).1

/-- A frame of at most 69 bytes awaits the checks once the work before it is complete. -/
theorem LineLaw.endFrame (h : LineLaw s.ci) (ht : s.ci.linkTimer.isSome) {bytes : List Byte} {next : Option (List Byte)} {ending : FrameEnding}
    (hb : 1 ≤ bytes.length ∧ bytes.length ≤ 69) (hn : next = none ∨ next = some []) : LineLaw (endFrame ending bytes next s).ci := by
  obtain ⟨-, sample, timer⟩ := frameEnd_whole h.one
  have kept := h.frameEnd false
  exact { kept with
    collecting := fun bs hbs => by
      obtain rfl | rfl := hn
      · cases hbs
      · cases hbs; exact Nat.zero_le 68
    awaiting := by rintro _ ⟨⟩; exact hb
    sample := fun w hw => absurd (sample.symm.trans hw) nofun
    silent := fun e => by rw [timer.symm.trans e] at ht; cases ht }

theorem LineLaw.collect (h : LineLaw s.ci) (ht : s.ci.linkTimer.isSome) {bytes : Option (List Byte)} (hb : ∀ bs, bytes = some bs → bs.length ≤ 68) :
    LineLaw (collect bytes s).ci := { h with
  collecting := hb
  silent := fun e => by
    have stopped : s.ci.linkTimer = none := e
    rw [stopped] at ht
    cases ht }

theorem LineLaw.receiveSymbol (h : LineLaw s.ci) (a : Symbol) : LineLaw (receiveSymbol a s).ci := by
  have timed : LineLaw (startLinkTimer s).ci := { h with
    up := fun up => ⟨rfl, (h.up up).2⟩
    silent := nofun }
  have running : (startLinkTimer s).ci.linkTimer.isSome := rfl
  unfold Machine.receiveSymbol takeDelimiter takeData
  (repeat' split)
  · exact timed
  · next b bs hb =>
    have few := timed.collecting _ hb
    exact timed.endFrame running ⟨Nat.succ_pos _, Nat.le_succ_of_le few⟩ (.inr rfl)
  · exact timed.collect running (by rintro _ ⟨⟩; exact Nat.zero_le 68)
  · exact timed.collect running (by rintro _ ⟨⟩; exact Nat.zero_le 68)
  · exact timed
  · next b bs hb room =>
    refine timed.collect running ?_
    rintro _ ⟨⟩
    rw [List.length_append]
    exact room
  · next b bs hb room =>
    have few := timed.collecting _ hb
    refine timed.endFrame running ?_ (.inl rfl)
    rw [List.length_append, List.length_singleton]
    omega

theorem truncateFrame_ci (s : State) : ∃ bytes, (truncateFrame s).ci = { s.ci with rx := { s.ci.rx with collecting := bytes } } ∧
    (bytes = none ∨ bytes = some []) := by
  unfold truncateFrame
  split
  · exact ⟨none, by simp [collect], .inl rfl⟩
  · next h => exact ⟨some [], by rw [← h], .inr rfl⟩
  · next h => exact ⟨none, by rw [← h], .inl rfl⟩

/-- R4: nothing is in reception, awaits the checks or is in work once the link-down timer has expired. -/
theorem LineLaw.linkDown (h : LineLaw s.ci) (e : Time) (ha : s.ci.rx.awaiting = none) (hs : s.ci.sample = none)
    (hc : s.ci.rx.collecting = none ∨ s.ci.rx.collecting = some []) : LineLaw (linkDown e s).ci := by
  unfold Machine.linkDown
  split
  · exact { h with
      up := nofun
      silent := fun _ => ⟨ha, hs, hc⟩ }
  · next hl => exact { h with
      up := fun up => absurd (hl.symm.trans up) nofun
      silent := fun _ => ⟨ha, hs, hc⟩ }

theorem LineLaw.linkDownExpiry (h : LineLaw s.ci) : LineLaw (linkDownExpiry s).ci := by
  unfold Machine.linkDownExpiry
  (repeat' split)
  · exact h
  · next e timer _ =>
    obtain ⟨rx, sample, -⟩ := frameEnd_whole h.one
    have done := h.frameEnd false
    obtain ⟨bytes, cut, hb⟩ := truncateFrame_ci (Machine.frameEnd false s)
    have line : LineLaw (truncateFrame (Machine.frameEnd false s)).ci := by
      rw [cut]
      exact { done with
        collecting := fun bs hbs => by
          obtain rfl | rfl := hb
          · cases hbs
          · cases hbs; exact Nat.zero_le 68
        silent := fun e' => by
          obtain ⟨ha, hs, -⟩ := done.silent e'
          exact ⟨ha, hs, hb⟩ }
    refine line.linkDown e ?_ ?_ ?_
    · rw [cut, rx]
    · rw [cut]; exact sample
    · rw [cut]; exact hb
  · exact h

end Sys2Proof.Machine
end

section
/-! Every command keeps the law of the Chain Interface (O14): grants, requests, and the walk through the commands. -/

namespace Sys2Proof.Machine
open Sys2Proof.Claims

variable {s t : State} {x : ChainInterface} {q : Request} {accepts : Request → Bool} {owner : Owner}

/-! ## The port (R16 to R19) -/

theorem egressGrant_line (h : LineLaw s.ci) : LineLaw (egressGrant s).ci := by
  unfold egressGrant grantTransit grantOriginated
  (repeat' split)
  · exact h
  · exact h
  · next f rest hf =>
    have few := h.transit
    rw [hf, List.length_cons] at few
    exact h.egress (Nat.le_of_succ_le few)
  · exact h.egress h.transit
  · exact h.egress h.transit
  · exact h.egress h.transit
  all_goals exact h

theorem egressGrant_settled (h : Settled s) : Settled (egressGrant s) := by
  unfold egressGrant grantTransit grantOriginated
  (repeat' split)
  · exact h
  · exact h
  · exact settled_of_busy rfl
  · exact settled_of_busy rfl
  · exact settled_of_busy rfl
  · exact settled_of_busy rfl
  all_goals exact h

theorem setDone_ci (c : Fin 16) (s : State) : (setDone c s).ci = s.ci := by
  unfold setDone; dsimp only; split <;> simp

theorem noteDone_ci (s : State) : (noteDone s).ci = s.ci := by
  unfold noteDone; dsimp only; split <;> simp

theorem deliverDone_ci (p : Producer) (s : State) : (deliverDone p s).ci = s.ci := by
  unfold deliverDone
  split
  · exact signal_ci _ _
  · rfl
  · exact setDone_ci _ _
  · exact noteDone_ci _

theorem settleIdlePort_line (h : LineLaw s.ci) : LineLaw (settleIdlePort s).ci := by
  rw [settleIdlePort_frame]
  exact h.egress h.transit

theorem egressDone_line (h : LineLaw s.ci) : LineLaw (egressDone s).ci := by
  unfold egressDone
  split
  · exact h
  · refine settleIdlePort_line ?_
    rw [deliverDone_ci]
    exact h.egress h.transit

theorem egressDone_settled (h : Settled s) : Settled (egressDone s) := by
  unfold egressDone
  split
  · exact h
  · exact settled_settleIdlePort _

/-! ## Frames -/

/-- From `s` to `t` only events were counted and the receiver written. -/
theorem Settled.counted (h : Settled s) (work : Work [] s t) (hc : ∀ c, t.chan c = s.chan c) (hr : t.ru = s.ru)
    (port : t.ci.port = s.ci.port) (transit : t.ci.transit = s.ci.transit) (last : t.ci.lastClass = s.ci.lastClass) : Settled t :=
  h.kept work.straps port transit last fun m =>
    m.of_busy (fun b => by simpa only [Busy, hr, hc] using b) (work.notes nofun) (work.manager nofun)

theorem frameEnd_settled (h : Settled s) (d : Bool) : Settled (frameEnd d s) := by
  obtain ⟨w, -, hr⟩ | ⟨-, -, hr⟩ | ⟨f, -, -, ⟨-, hr⟩ | ⟨-, hr⟩⟩ := frameEnd_cases d s <;> rw [hr]
  · exact settled_settleIdlePort _
  · exact h
  · exact settled_settleIdlePort _
  · have work : Work [] s (signal .crcError (signal .framesIn (s.withCi { s.ci with rx := { s.ci.rx with awaiting := none } }))) :=
      Work.signal (Work.signal ((Work.refl s).moveCi rfl rfl))
    exact h.counted work (by simp) (by simp) (by simp) (by simp) (by simp)

/-- A write to the receiver, to the link or to its timer. -/
theorem Settled.moveCi (h : Settled s) (straps : x.straps = s.ci.straps) (port : x.port = s.ci.port) (transit : x.transit = s.ci.transit)
    (last : x.lastClass = s.ci.lastClass) : Settled (s.withCi x) := h.kept straps port transit last id

theorem receiveSymbol_settled (h : Settled s) (a : Symbol) : Settled (receiveSymbol a s) := by
  have timed : Settled (startLinkTimer s) := h.moveCi rfl rfl rfl rfl
  unfold receiveSymbol takeDelimiter takeData endFrame collect
  (repeat' split)
  · exact timed
  · exact (frameEnd_settled timed false).moveCi rfl rfl rfl rfl
  · exact timed.moveCi rfl rfl rfl rfl
  · exact timed.moveCi rfl rfl rfl rfl
  · exact timed
  · exact timed.moveCi rfl rfl rfl rfl
  · exact (frameEnd_settled timed false).moveCi rfl rfl rfl rfl

theorem truncateFrame_settled (h : Settled s) : Settled (truncateFrame s) := by
  unfold truncateFrame
  split
  · have work : Work [] s (signal .crcError (signal .framesIn (collect none s))) :=
      Work.signal (Work.signal ((Work.refl s).moveCi rfl rfl))
    exact h.counted work (by simp [collect]) (by simp [collect]) (by simp [collect]) (by simp [collect]) (by simp [collect])
  · exact h
  · exact h

theorem linkDownExpiry_settled (h : Settled s) : Settled (linkDownExpiry s) := by
  have cut : Settled (truncateFrame (frameEnd false s)) := truncateFrame_settled (frameEnd_settled h false)
  unfold linkDownExpiry linkDown
  (repeat' split)
  · exact h
  · exact cut.moveCi rfl rfl rfl rfl
  · exact cut.moveCi rfl rfl rfl rfl
  · exact h

/-! ## Requests -/

/-- The Chain Interface is as `x` was but for the hop budget, and a reply takes the slot where the ready list is empty. -/
structure Serving (x : ChainInterface) (s : State) : Prop where
  ci : ∃ v, v ≠ 0 ∧ s.ci = { x with hopBudget := v }
  slot : s.ru.slot = none → s.ru.ready = []

theorem Serving.congr (h : Serving x s) (hci : t.ci = s.ci) (hs : t.ru.slot = s.ru.slot) (hr : t.ru.ready = s.ru.ready) : Serving x t :=
  ⟨by rw [hci]; exact h.ci, by rw [hs, hr]; exact h.slot⟩

/-- A reply that is placed leaves the slot full. -/
theorem Serving.placed (h : Serving x s) (r : Reply) : (s.ru.place r).slot.isSome := by
  cases hs : s.ru.slot with
  | none => rw [place_empty hs (h.slot hs)]; rfl
  | some y => exact place_slot r (by rw [hs]; rfl)

theorem Serving.placed_serving (h : Serving x s) (r : Reply) : Serving x (s.withRu (s.ru.place r)) := by
  refine ⟨h.ci, fun e => ?_⟩
  have full := h.placed r
  rw [State.withRu_ru] at e
  rw [e] at full
  cases full

theorem Serving.formReply (h : Serving x s) (r : Reply) : Serving x (formReply r s) := by
  have placed := h.placed_serving r
  exact placed.congr (formReply_ci _ _) (by rw [formReply_ru]; rfl) (by rw [formReply_ru]; rfl)

theorem Serving.completeEntry (h : Serving x s) (ref : EntryRef) (code : RequestCode) (status : Status) (data : List Byte) :
    Serving x (completeEntry ref code status data s) := by
  have marked (y : Reply) : Serving x (s.withRu (s.ru.markDone ref y)) := h.congr rfl rfl rfl
  exact (marked _).formReply _

theorem driving_serving : Driving (Serving x) where
  notes _ h := h.congr rfl rfl rfl
  counters _ h := h.congr rfl rfl rfl
  turns _ h := h.congr rfl rfl rfl
  queue _ h := h.congr rfl rfl rfl
  run _ h := h.congr rfl rfl rfl
  drive _ _ h := h.congr rfl rfl rfl

theorem Serving.report (h : Serving x s) (c : Fin 16) (faulted : Bool) : Serving x (reportEntry c faulted s) :=
  driving_serving.report (fun h => h.congr rfl rfl rfl) (fun _ _ _ _ h => h.completeEntry _ _ _ _) h

theorem Serving.cancelHandover (h : Serving x s) (r : Fin 32) : Serving x (cancelHandover r s) := by
  unfold Machine.cancelHandover
  (repeat' split)
  · exact h
  · exact h.completeEntry _ _ _ _
  · exact h

theorem calm_serving : Calm (Serving x) where
  toIncidental := driving_serving.toIncidental
  chan _ _ _ h := h.congr rfl rfl rfl
  marks h := h.congr rfl rfl rfl
  sup _ _ h := h.congr rfl rfl rfl
  alert _ h := h.congr rfl rfl rfl
  report c faulted h := h.report c faulted

theorem apart_serving : Apart (Serving x) where
  toIncidental := driving_serving.toIncidental
  om _ h := h.congr rfl rfl rfl
  told _ h := h.congr rfl rfl rfl
  point _ _ _ h := h.congr rfl rfl rfl
  feedback := calm_serving.feedback
  wentStale := calm_serving.wentStale
  entry _ _ h := driving_serving.entry h
  clearing _ _ h := driving_serving.clearing h

theorem Serving.restart (h : Serving x s) : Serving x (forEachRegulator restartRegulator (restartBlocks s)) := by
  have blocks := (forEachRestart _ (restartBlocks_noneFresh s)).blocks
  exact h.congr (by rw [blocks]; rfl) (by rw [blocks]; rfl) (by rw [blocks]; rfl)

theorem undertaken_serving (q : Request) : Undertaken q (fun _ => True) (Serving x) where
  driving := driving_serving
  calm := calm_serving
  apart := apart_serving
  record _ h := h.congr rfl rfl rfl
  ready _ _ h := h.congr rfl rfl rfl
  cancelled _ _ h := (h.cancelHandover _).congr rfl rfl rfl
  point _ h := h.congr rfl rfl rfl
  budget hv h := by
    obtain ⟨v, -, hx⟩ := h.ci
    exact ⟨⟨_, hv, by rw [State.withCi_ci, hx]⟩, h.slot⟩
  bind h := h.congr rfl rfl rfl
  unbind h := h.congr rfl rfl rfl
  restart h := h.restart
  clear h := h.congr rfl rfl rfl

/-- A frame of the part's own goes on waiting where channels, slot, notes and binding are as they were. -/
theorem Manned.congr (h : Manned s) (hc : ∀ c, t.chan c = s.chan c) (hs : t.ru.slot = s.ru.slot) (hm : t.ru.manager = s.ru.manager)
    (hn : t.nu = s.nu) : Manned t :=
  h.of_busy (fun b => by simpa only [Busy, hs, hc] using b) (by rw [hn]; exact .refl) hm

/-- What a request leaves that is answered, or that leaves the waiting frames. -/
theorem Serving.finish {a : State × Verdict} (h : Serving x a.1) (hm : a.2.answers ∨ (Manned s → Manned a.1)) :
    Serving x (finish q a.2 a.1) ∧ (Manned s → Manned (finish q a.2 a.1)) := by
  obtain ⟨u, v⟩ := a
  cases v with
  | reply status data =>
    have entered (r : Reply) : Serving x (u.withRu (u.ru.addEntry { ref := q.ref, status := .done r })) := h.congr rfl rfl rfl
    refine ⟨(entered _).formReply _, fun _ => .inl (.inl ?_)⟩
    unfold Machine.finish
    dsimp only
    rw [formReply_ru]
    exact (entered _).placed _
  | deferred => exact ⟨h.congr rfl rfl rfl, fun m => (hm.resolve_left id m).congr (fun _ => rfl) rfl rfl rfl⟩
  | reading r => exact ⟨h.congr rfl rfl rfl, fun m => (hm.resolve_left id m).congr (fun _ => rfl) rfl rfl rfl⟩

theorem makeRoom_slot (u : RequestUnit) : u.makeRoom.slot = u.slot := by
  unfold RequestUnit.makeRoom; split <;> rfl

theorem makeRoom_ready (u : RequestUnit) : u.makeRoom.ready = u.ready := by
  unfold RequestUnit.makeRoom; split <;> rfl

/-- A request that is taken is answered, deferred or read on with the frames that wait as they were. -/
theorem chainLaw_takeRequest (h : ChainLaw s) (own : ∀ q {u}, Serving s.ci u → Serving s.ci (owner q u).1)
    (defers : ∀ q u, (owner q u).2.answers ∨ (Manned u → Manned (owner q u).1)) : ChainLaw (takeRequest accepts owner s) := by
  obtain ⟨line, settled⟩ := (chainLaw_iff s).1 h
  have law {t : State} (ht : Serving s.ci t ∧ (Manned s → Manned t)) : ChainLaw t := by
    obtain ⟨⟨⟨v, hv, ci⟩, -⟩, manned⟩ := ht
    refine (chainLaw_iff t).2 ⟨by rw [ci]; exact line.withBudget hv, ?_⟩
    exact settled.kept (by rw [ci]) (by rw [ci]) (by rw [ci]) (by rw [ci]) manned
  unfold takeRequest
  split
  · exact h
  · next q rest _ =>
    split
    · next hc =>
      simp only [Bool.and_eq_true, Option.isNone_iff_eq_none, List.isEmpty_iff] at hc
      obtain ⟨⟨-, ready⟩, -⟩ := hc
      have dequeued : Serving s.ci (s.withRu { s.ru with fifo := rest }) := ⟨⟨_, line.budget, rfl⟩, fun _ => ready⟩
      have waiting (m : Manned s) : Manned (s.withRu { s.ru with fifo := rest }) := m.congr (fun _ => rfl) rfl rfl rfl
      generalize s.withRu { s.ru with fifo := rest } = u at dequeued waiting
      have roomy : Serving s.ci (u.withRu u.ru.makeRoom) := dequeued.congr rfl (makeRoom_slot _) (makeRoom_ready _)
      have waiting' (m : Manned s) : Manned (u.withRu u.ru.makeRoom) :=
        (waiting m).congr (fun _ => rfl) (makeRoom_slot _) (makeRoom_manager _) rfl
      refine law ?_
      unfold serve
      split
      · have work : Work [] u (signal .reqDropped u) := Work.signal (.refl u)
        exact ⟨driving_serving.signal dequeued, fun m => (waiting m).of_busy (fun b => by simpa [Busy] using b) (work.notes nofun)
          (work.manager nofun)⟩
      · split
        · split
          · exact ⟨dequeued.placed_serving _, fun _ => .inl (.inl (dequeued.placed _))⟩
          · exact ⟨dequeued, waiting⟩
        · unfold serveNew
          dsimp only
          split
          · exact Serving.finish (a := (_, refuse .badRequest)) roomy (.inl trivial)
          · split
            · exact Serving.finish (a := (_, refuse .notManager)) roomy (.inl trivial)
            · exact (own q roomy).finish ((defers q _).imp_right fun hd m => hd (waiting' m))
    · exact h

theorem chainLaw_answeredAtOnce {c : Instr} (hc : answeredAtOnce c = true) (h : ChainLaw s) : ∃ t, exec c s = .next t ∧ ChainLaw t := by
  obtain ⟨accepts, owner, he, answers, keeps⟩ := answeredAtOnce_owner hc
  exact ⟨_, he s, chainLaw_takeRequest h (fun q u hu => keeps (undertaken_serving q) trivial hu) fun q u => .inl (answers q u)⟩

theorem chainLaw_takeManual (h : ChainLaw s) : ChainLaw (takeRequest accepts ownTakeManual s) := by
  refine chainLaw_takeRequest h (fun q u hu => ?_) fun q u => ?_
  · obtain ⟨hr, -⟩ | ⟨r, l, -, ⟨-, hr, -⟩ | ⟨-, ⟨x, d, hr⟩ | ⟨-, hr⟩⟩⟩ := ownTakeManual_leaves q u <;> rw [hr]
    · exact hu
    · exact driving_serving.writeManual (hu.congr rfl rfl rfl)
    · exact driving_serving.writeManual (hu.congr rfl rfl rfl)
    · exact hu.congr rfl rfl rfl
  · obtain ⟨-, x, hx⟩ | ⟨r, l, -, ⟨-, -, d, hx⟩ | ⟨-, ⟨x, d, hr⟩ | ⟨-, hr⟩⟩⟩ := ownTakeManual_leaves q u
    · rw [hx]; exact .inl trivial
    · rw [hx]; exact .inl trivial
    · rw [hr]; exact .inl trivial
    · rw [hr]; exact .inr fun m => m.congr (fun _ => rfl) rfl rfl rfl

theorem chainLaw_sweep (h : ChainLaw s) : ChainLaw (takeRequest accepts ownSweep s) := by
  refine chainLaw_takeRequest h (fun q u hu => ?_) fun q u => ?_
  · obtain ⟨hr, -⟩ | ⟨-, -, -, hr⟩ := ownSweep_leaves q u <;> rw [hr]
    · exact hu
    · exact hu.congr rfl rfl rfl
  · obtain ⟨-, x, hx⟩ | ⟨-, -, -, hr⟩ := ownSweep_leaves q u
    · rw [hx]; exact .inl trivial
    · rw [hr]; exact .inr fun m => m.congr (fun _ => rfl) rfl rfl rfl

/-- The end of an execution takes no reply out of the slot. -/
theorem Still.finish (h : Still s t) (v : Verdict) : Still s (finish q v t) := by
  refine ⟨by rw [finish_ci]; exact h.ci, fun b => (h.busy b).imp (fun slot => ?_) fun ⟨c, hc⟩ => ⟨c, ?_⟩⟩
  · cases v with
    | reply status data =>
      unfold Machine.finish
      dsimp only
      rw [formReply_ru]
      exact place_slot _ slot
    | deferred => exact slot
    | reading r => exact slot
  · simp only [State.chan, finish_chans] at hc ⊢
    exact hc

/-! ## Every command -/

/-- An event that leaves the Chain Interface and the frames that wait. -/
theorem chainLaw_still {c : Instr} (h : ChainLaw s) (hc : ∀ a, c ≠ .coldReset a) (hn : .notes ∉ owns c) (hm : .manager ∉ owns c)
    (he : exec c s = .next t) (st : Still s t) : ∃ t, exec c s = .next t ∧ ChainLaw t := by
  obtain ⟨line, settled⟩ := (chainLaw_iff s).1 h
  obtain ⟨u, hu, work⟩ := exec_work c s hc
  cases hu.symm.trans he
  refine ⟨t, he, (chainLaw_iff t).2 ⟨by rw [st.ci]; exact line, ?_⟩⟩
  exact settled.kept work.straps (by rw [st.ci]) (by rw [st.ci]) (by rw [st.ci]) fun m => m.of_busy st.busy (work.notes hn) (work.manager hm)

theorem chainLaw_readStatus (h : ChainLaw s) : ∃ t, exec .readStatus s = .next t ∧ ChainLaw t := by
  obtain ⟨x, hx, he⟩ | ⟨-, he⟩ := execReadStatus_cases s
  · obtain ⟨l, hl⟩ := readStatusOn_leaves x.read (s.withRu (s.ru.executing none))
    have resumed : Still s (readStatusOn x.read (s.withRu (s.ru.executing none))).1 := by
      rw [hl]
      exact ⟨rfl, id⟩
    exact chainLaw_still h nofun nofun nofun he (resumed.finish _)
  · refine ⟨_, he, chainLaw_takeRequest h (fun q u hu => ?_) fun q u => .inr fun m => ?_⟩ <;>
      obtain ⟨l, hl⟩ := readStatusOn_leaves (StatusRead.begun u.timebase) u
    · unfold ownReadStatus
      rw [hl]
      exact hu.congr rfl rfl rfl
    · unfold ownReadStatus
      rw [hl]
      exact m.congr (fun _ => rfl) rfl rfl rfl

theorem chainLaw_resend (h : ChainLaw s) : ChainLaw (resendExpiry s) := by
  obtain ⟨line, settled⟩ := (chainLaw_iff s).1 h
  unfold resendExpiry
  split
  · exact (chainLaw_iff _).2 ⟨line, settled.kept rfl rfl rfl rfl fun m => m.imp id allDue_offer⟩
  · exact h

/-- R2 to R19: every command keeps the law of the Chain Interface. -/
theorem exec_chainLaw (c : Instr) (h : ChainLaw s) : ∃ t, exec c s = .next t ∧ ChainLaw t := by
  obtain ⟨line, settled⟩ := (chainLaw_iff s).1 h
  have start := Still.refl s
  cases c with
  | coldReset a =>
    have cold : ChainLaw (State.cold a) := cold_chainLaw
    exact ⟨_, rfl, { cold with }⟩
  | frameEnd => exact ⟨_, rfl, (chainLaw_iff _).2 ⟨line.frameEnd true, frameEnd_settled settled true⟩⟩
  | symbolReceived a => exact ⟨_, rfl, (chainLaw_iff _).2 ⟨line.receiveSymbol a, receiveSymbol_settled settled a⟩⟩
  | linkDownTimerExpiry => exact ⟨_, rfl, (chainLaw_iff _).2 ⟨line.linkDownExpiry, linkDownExpiry_settled settled⟩⟩
  | egressGrant => exact ⟨_, rfl, (chainLaw_iff _).2 ⟨egressGrant_line line, egressGrant_settled settled⟩⟩
  | egressDone => exact ⟨_, rfl, (chainLaw_iff _).2 ⟨egressDone_line line, egressDone_settled settled⟩⟩
  | resendTimerExpiry => exact ⟨_, rfl, chainLaw_resend h⟩
  | timebaseAdvance => exact chainLaw_still h nofun (by decide) nofun rfl (still_advance s)
  | stalenessExpiry i => exact chainLaw_still h nofun nofun nofun rfl (apart_still.reporting.staleness i start)
  | periodTimerExpiry r => exact chainLaw_still h nofun nofun nofun rfl (driving_still.period start)
  | holdTimerExpiry => exact chainLaw_still h nofun nofun nofun rfl (apart_still.hold start)
  | stallWindowExpiry r => exact chainLaw_still h nofun nofun nofun rfl (still_window r s)
  | ackTimerExpiry c => exact chainLaw_still h nofun nofun nofun rfl (still_ack c s)
  | probeTimerExpiry c => exact chainLaw_still h nofun nofun nofun rfl (still_probe c s)
  | sweepStepExpiry => exact chainLaw_still h nofun (by decide) (by decide) rfl (still_sweepStep s)
  | readStatus => exact chainLaw_readStatus h
  | takeManual => exact ⟨_, rfl, chainLaw_takeManual h⟩
  | sweep => exact ⟨_, rfl, chainLaw_sweep h⟩
  | _ => exact chainLaw_answeredAtOnce rfl h

/-- Settles O14: the line by what each event writes to it; the last class because whatever takes a waiting frame away settles the port or
leaves a reply in the slot. -/
theorem chainLawIsKept : Obligations.ChainLawIsKept := fun _ _ h ht =>
  step_keeps (fun _ _ h => { h with }) (fun c _ _ he hs => by
    obtain ⟨u, hu, kept⟩ := exec_chainLaw c hs
    exact Host.Outcome.next.inj (hu.symm.trans he) ▸ kept) h ht

end Sys2Proof.Machine
end

end
